-- ==== Sys2Proof/Word.lean ====
section
/-! DEFINITION. The two word types of the block: a data byte (R6, "data width 8 bits") and an address
or program counter (R6, "address width 16 bits"). The byte-order helpers are in Machine/Bits.lean. -/

namespace Sys2Proof

/-- A `u8` of 00_scope.md section 6: data, the registers A, X, Y, S, the packed status byte. -/
abbrev Byte := BitVec 8

/-- A `u16` of 00_scope.md section 6: an address, the program counter. -/
abbrev Word := BitVec 16

end Sys2Proof
end

