-- ==== Sys2Proof/Config.lean ====
section
/-! DEFINITION. The parameters the spec leaves open to a model (00_scope.md R6 and the closing table of
92_eei_decisions.md). The values this machine has are `Machine.config` in Machine/Ops.lean; the shared
operations take the parameters as arguments, so that both conventions have their meaning. There is no
free value: no instruction of this hardware leaves a result undefined. -/

namespace Sys2Proof

/-- `UNKNOWN_OPCODE_POLICY` (R6, R216, D18): what the driver does after the unknown-opcode report. -/
inductive UnknownOpcodePolicy where
  /-- The run ends there in a fault that no later step clears (the default). -/
  | fault
  /-- The run goes on with the next step, and the report stays in the run's trace. -/
  | skip
  deriving DecidableEq, Repr

/-- The behaviour parameters of R6. -/
structure Config where
  /-- `SBC_WRITES_NV` (D7): whether SBC writes N and V. -/
  sbcWritesNV : Bool
  /-- `BRK_PUSHES_B_SET` (D8): whether the status byte BRK pushes has bit 4 forced to 1. -/
  brkPushesBSet : Bool
  /-- `UNKNOWN_OPCODE_POLICY` (D18). -/
  unknownOpcode : UnknownOpcodePolicy
  deriving DecidableEq, Repr

/-- `POWER_ON` (R6, R221, D17): the values before the first `Reset()` of the registers and flags that
`Reset()` does not write. A claim that is to hold whatever they are quantifies over this structure.
C has the default 0 that R221 reads from the source's scenario. -/
structure PowerOn where
  a : Byte
  x : Byte
  y : Byte
  n : Bool
  v : Bool
  z : Bool
  c : Bool := false
  deriving DecidableEq, Repr

end Sys2Proof
end

