-- ==== Sys2Proof/Machine/Bits.lean ====
section
/-! DEFINITION. Byte order, bit fields and extension: the notation of 00_scope.md section 6. -/

namespace Sys2Proof.Machine

/-- `word(l, h) = h * 256 + l`: the 16-bit value of a low and a high byte (R57, little-endian). -/
def word (l h : Byte) : Word := h ++ l

/-- `lo(w) = w[7:0]`. -/
def lo (w : Word) : Byte := w.extractLsb' 0 8

/-- `hi(w) = w[15:8]`. -/
def hi (w : Word) : Byte := w.extractLsb' 8 8

/-- `zext_16(b) = b`. -/
def zext16 (b : Byte) : Word := b.setWidth 16

/-- `sext_16(b)`: b when bit 7 is 0, b + 0xFF00 when it is 1 (the branch displacement, R79). -/
def sext16 (b : Byte) : Word := b.signExtend 16

/-- `v[7]`, the sign bit (R30). -/
def bit7 (v : Byte) : Bool := v.getLsbD 7

/-- `v[6]`. -/
def bit6 (v : Byte) : Bool := v.getLsbD 6

/-- `v[0]`. -/
def bit0 (v : Byte) : Bool := v.getLsbD 0

/-- The byte with bit `k` equal to the flag and every other bit 0: `F << k` of R37. -/
def flagAt (k : Nat) (flag : Bool) : Byte := if flag then 1#8 <<< k else 0#8

end Sys2Proof.Machine
end

