-- ==== Sys2Proof/Machine/Memory.lean ====
section
/-! DEFINITION. The store the core consumes (20_memory.md R50 to R55): 65536 bytes of plain read-write
memory, as a list of (address, byte) pairs in one canonical form. An address the list does not name reads
as 0x00, the value R53 gives a byte the loaded image does not reach. -/

namespace Sys2Proof.Machine

/-- The store: the non-zero bytes with their addresses, in rising order of address. -/
abbrev Memory := List Host.Cell

/-- `MemRead(addr, 1)` (R51, R52): total, without side effect. -/
def Memory.read : Memory → Word → Byte
  | [], _ => 0#8
  | (k, v) :: m, a => if k = a.toNat then v else Memory.read m a

/-- The store without an entry for address `k`, so that `k` reads 0x00. -/
def Memory.erase (m : Memory) (k : Nat) : Memory := m.filter (fun cell => cell.1 ≠ k)

/-- The store with the entry `(k, v)` put before the first entry of a higher address. -/
def Memory.insert : Memory → Nat → Byte → Memory
  | [], k, v => [(k, v)]
  | cell :: m, k, v => if cell.1 < k then cell :: Memory.insert m k v else (k, v) :: cell :: m

/-- `MemWrite(addr, 1, v)` (R51, R52): changes that one byte and nothing else. Writing 0x00 removes the
entry, so the canonical form is kept. -/
def Memory.write (m : Memory) (a : Word) (v : Byte) : Memory :=
  if v = 0#8 then m.erase a.toNat else (m.erase a.toNat).insert a.toNat v

/-- The canonical form: addresses strictly rising and below 65536, no zero byte listed. -/
abbrev Memory.wf (m : Memory) : Prop :=
  m.Pairwise (fun p q => p.1 < q.1) ∧ ∀ cell ∈ m, cell.1 < 65536 ∧ cell.2 ≠ 0#8

end Sys2Proof.Machine
end

