-- ==== Sys2Proof/Machine/State.lean ====
section
/-! DEFINITION. Everything the spec gives the machine (10_state.md: five registers and seven flags,
"Nothing else is state"; 20_memory.md: the store), the two reasons a step can stop, and the state right
after reset. -/

namespace Sys2Proof.Machine

/-- The architectural state (R20, R29, R50). Between steps `pc` is the address of the next opcode byte
(R24). The packed status byte is a view of the flags and is not stored (R36). -/
structure State where
  /-- PC, the program counter (R24). -/
  pc : Word
  /-- A, the accumulator (R21). -/
  a : Byte
  /-- X, an index register (R22). -/
  x : Byte
  /-- Y, an index register (R22). -/
  y : Byte
  /-- S, the stack pointer, an offset into page 1 (R23). -/
  sp : Byte
  /-- N, negative (R30). -/
  n : Bool
  /-- V, overflow (R31). -/
  v : Bool
  /-- B, break, a stored flag (R35). -/
  b : Bool
  /-- D, decimal, without effect on arithmetic (R35, R112). -/
  d : Bool
  /-- I, interrupt-disable, which masks nothing (R35, R206). -/
  i : Bool
  /-- Z, zero (R32). -/
  z : Bool
  /-- C, carry (R34). -/
  c : Bool
  /-- The 64 KB store (R50 to R53). -/
  mem : Memory
  deriving DecidableEq, Repr

/-- Why the machine stops with a fault: the block's one exceptional condition (R200). -/
inductive Fault where
  /-- `UnknownOpcode(op, addr)` (R201), raised by `step` when the byte fetched as an opcode is one of the
  105 of R77. `after` is the state R201 leaves (PC one past the byte, nothing else changed), from which a
  driver with the policy `skip` goes on. Safe: stopping is the policy R216 chooses. -/
  | unknownOpcode (op : Byte) (addr : Word) (after : State)
  deriving DecidableEq, Repr

/-- Why the model gives an instruction no meaning. -/
inductive Refusal where
  /-- Raised by an arm of `exec` whose instruction has no meaning yet; no arm raises it now. Safe: the
  model stops. -/
  | notModelled (mnemonic : String)
  deriving DecidableEq, Repr

/-- The result of one step (R7, R8): `Completed` is `next`, `UnknownOpcode` is `fault`. -/
abbrev Result := Host.Outcome State Fault Refusal

/-- The machine right after reset over a store with no image (R220, R43): PC is the word at 0xFFFC,
0xFFFD, whose bytes read 0x00 (log 2); I = 1, B = 0, D = 0, S = 0xFD; C = 0 (R221; log 7).
DESIGN CHOICE (log 1, unsafe): A, X, Y are 0x00 and N, V, Z are 0, which the spec leaves free; a claim for
every power-on value is stated over `launch` (Machine/Launch.lean). -/
def State.reset : State where
  pc := 0x0000#16
  a := 0x00#8
  x := 0x00#8
  y := 0x00#8
  sp := 0xFD#8
  n := false
  v := false
  b := false
  d := false
  i := true
  z := false
  c := false
  mem := []

end Sys2Proof.Machine
end

