-- ==== Sys2Proof/Machine/Flags.lean ====
section
/-! DEFINITION. The status-flag logic (`6502_status_flag_sm`, 10_state.md R29 to R38): how a result sets
flags, and the packed status byte. -/

namespace Sys2Proof.Machine

/-- `Z <- (v == 0)` (R32). -/
def isZero (v : Byte) : Bool := v == 0#8

/-- `SetNZ(v)` (R33). -/
def State.setNZ (v : Byte) (s : State) : State := { s with n := bit7 v, z := isZero v }

/-- The overflow formula of R111: `((a ^ r) & (v ^ r) & 0x80) != 0`. -/
def overflows (a v r : Byte) : Bool := ((a ^^^ r) &&& (v ^^^ r) &&& 0x80#8) != 0#8

/-- `PackP()` (R36, R37): N V 1 B D I Z C from bit 7 to bit 0; bit 4 is the B flag as it is. -/
def State.packP (s : State) : Byte :=
  flagAt 0 s.c ||| flagAt 1 s.z ||| flagAt 2 s.i ||| flagAt 3 s.d ||| flagAt 4 s.b ||| 0x20#8
    ||| flagAt 6 s.v ||| flagAt 7 s.n

/-- `UnpackP(b)` (R38): writes all seven flags; bit 5 is ignored. -/
def State.unpackP (p : Byte) (s : State) : State :=
  { s with
    c := p.getLsbD 0, z := p.getLsbD 1, i := p.getLsbD 2, d := p.getLsbD 3, b := p.getLsbD 4
    v := p.getLsbD 6, n := p.getLsbD 7 }

end Sys2Proof.Machine
end

