-- ==== Sys2Proof/Machine/Ops.lean ====
section
/-! DEFINITION. The named operations over registers and memory: the PC advance, byte access, push and
pop, trap entry and return, the unknown-opcode condition, the reset sequence, and the parameter values
this machine has. -/

namespace Sys2Proof.Machine

/-- The parameter values of this machine: the defaults of R6 (D7, D8, D18; log 3, 4, 5). -/
def config : Config where
  sbcWritesNV := false
  brkPushesBSet := false
  unknownOpcode := .fault

/-- PC after `k` bytes have been fetched (R71, R25): `mod 65536`. -/
def State.advance (k : Nat) (s : State) : State := { s with pc := s.pc + BitVec.ofNat 16 k }

/-- PC loaded with a target (`PC <- target`). -/
def State.jump (target : Word) (s : State) : State := { s with pc := target }

/-- `MemRead(addr, 1)` (R51). -/
def State.read (s : State) (addr : Word) : Byte := s.mem.read addr

/-- `MemWrite(addr, 1, v)` (R51). -/
def State.write (addr : Word) (v : Byte) (s : State) : State := { s with mem := s.mem.write addr v }

/-- The stack location S names: `0x0100 + S`, always in page 1 (R23, R68). -/
def stackAddr (sp : Byte) : Word := 0x0100#16 + zext16 sp

/-- `Push(v)` (R26): the byte goes to the location S names, then S decrements `mod 256`. -/
def State.push (v : Byte) (s : State) : State :=
  { s with mem := s.mem.write (stackAddr s.sp) v, sp := s.sp - 1#8 }

/-- The state after `Pop()` (R27): S incremented `mod 256`; the stacked byte is not erased. -/
def State.pop (s : State) : State := { s with sp := s.sp + 1#8 }

/-- The byte `Pop()` returns (R27): the one at the location the incremented S names. -/
def State.popped (s : State) : Byte := s.read (stackAddr (s.sp + 1#8))

/-- The two pushes of a 16-bit value, high byte first (R57, R160, R183). -/
def State.pushWord (w : Word) (s : State) : State := (s.push (hi w)).push (lo w)

/-- The word two pulls return, low byte first (R161, R162). -/
def State.poppedWord (s : State) : Word := word s.popped s.pop.popped

/-- The little-endian word at a vector: low byte at `addr`, high byte at `addr + 1` (R57, R58). -/
def State.vector (s : State) (addr : Word) : Word := word (s.read addr) (s.read (addr + 1#16))

/-- Trap entry (R183, R204), from a state whose PC is the opcode address plus 1: PC high, PC low and the
packed status byte are pushed, then B is set, then PC is loaded from 0xFFFE, 0xFFFF. I is not written
(D9). The pushed bit 4 is the earlier B unless `BRK_PUSHES_B_SET` (D8). -/
def takeTrap (cfg : Config) (s : State) : State :=
  let status := if cfg.brkPushesBSet then s.packP ||| 0x10#8 else s.packP
  let t := (s.pushWord s.pc).push status
  { t with b := true, pc := t.vector 0xFFFE#16 }

/-- Trap return (R162, R205): the status byte is pulled into all seven flags, then PC low, then PC high,
with no adjustment. -/
def returnFromTrap (s : State) : State :=
  let t := s.pop.unpackP s.popped
  t.pop.pop.jump t.poppedWord

/-- The condition of R201: reported with the byte and its address; PC moves one past the byte, and
nothing else changes. -/
def raiseUnknownOpcode (op : Byte) (s : State) : Result := .fault (.unknownOpcode op s.pc (s.advance 1))

/-- `Reset()` (R220, R222): PC from 0xFFFC, 0xFFFD; I = 1, B = 0, D = 0, S = 0xFD; A, X, Y, N, V, Z, C
and memory are not written. A host action between steps, not a step. -/
def resetSequence (s : State) : State :=
  { s with pc := s.vector 0xFFFC#16, i := true, b := false, d := false, sp := 0xFD#8 }

end Sys2Proof.Machine
end

