-- ==== Sys2Proof/Machine/Alu.lean ====
section
/-! DEFINITION. The 8-bit functions of the ALU (`6502_alu`): 41_arithmetic_logical.md R111 to R118 and
43_shift_compare_incdec.md R130 to R144, each with the flags its rule names. Sums are taken over the
integers and narrowed at the end (R117). -/

namespace Sys2Proof.Machine

/-- ADC (R111): A plus operand plus C, binary whatever D holds (R112). -/
def addWithCarry (v : Byte) (s : State) : State :=
  let t := s.a.toNat + v.toNat + s.c.toNat
  let r := BitVec.ofNat 8 t
  { s with a := r, c := decide (t > 255), z := isZero r, v := overflows s.a v r, n := bit7 r }

/-- SBC (R113): A plus the complement of the operand plus C. N and V are written only under
`SBC_WRITES_NV` (D7). -/
def subtractWithBorrow (cfg : Config) (v : Byte) (s : State) : State :=
  let t := s.a.toNat + (v ^^^ 0xFF#8).toNat + s.c.toNat
  let r := BitVec.ofNat 8 t
  let u := { s with a := r, c := decide (t > 255), z := isZero r }
  if cfg.sbcWritesNV then { u with v := overflows s.a (v ^^^ 0xFF#8) r, n := bit7 r } else u

/-- A result loaded into A, with N and Z from it (R114 to R116, R121, R172, R194, R196). -/
def loadA (r : Byte) (s : State) : State := ({ s with a := r } : State).setNZ r

/-- A result loaded into X, with N and Z from it (R122, R141, R143, R191, R193). -/
def loadX (r : Byte) (s : State) : State := ({ s with x := r } : State).setNZ r

/-- A result loaded into Y, with N and Z from it (R123, R142, R144, R192). -/
def loadY (r : Byte) (s : State) : State := ({ s with y := r } : State).setNZ r

/-- AND (R114). -/
def andA (v : Byte) (s : State) : State := loadA (s.a &&& v) s

/-- ORA (R115). -/
def orA (v : Byte) (s : State) : State := loadA (s.a ||| v) s

/-- EOR (R116). -/
def xorA (v : Byte) (s : State) : State := loadA (s.a ^^^ v) s

/-- ASL (R131): the result, and the state with C the bit shifted off and N, Z from the result. -/
def shiftLeft (v : Byte) (s : State) : Byte × State :=
  let r := v <<< 1
  (r, ({ s with c := bit7 v } : State).setNZ r)

/-- LSR (R132): N is cleared. -/
def shiftRight (v : Byte) (s : State) : Byte × State :=
  let r := v >>> 1
  (r, { s with c := bit0 v, n := false, z := isZero r })

/-- ROL (R133): bit 0 of the result is the old C. -/
def rotateLeft (v : Byte) (s : State) : Byte × State :=
  let r := (v <<< 1) ||| flagAt 0 s.c
  (r, ({ s with c := bit7 v } : State).setNZ r)

/-- ROR (R134): bit 7 of the result is the old C. -/
def rotateRight (v : Byte) (s : State) : Byte × State :=
  let r := (v >>> 1) ||| flagAt 7 s.c
  (r, ({ s with c := bit0 v } : State).setNZ r)

/-- INC (R139): no carry out. -/
def increment (v : Byte) (s : State) : Byte × State := (v + 1#8, s.setNZ (v + 1#8))

/-- DEC (R140). -/
def decrement (v : Byte) (s : State) : Byte × State := (v - 1#8, s.setNZ (v - 1#8))

/-- The comparator (R135): Z and C from the comparison, N from bit 7 of the 8-bit difference. -/
def compareWith (register : State → Byte) (v : Byte) (s : State) : State :=
  { s with z := register s == v, c := decide (register s ≥ v), n := bit7 (register s - v) }

/-- BIT (R197): Z from A and the operand, N and V from bits 7 and 6 of the operand. -/
def bitTest (v : Byte) (s : State) : State :=
  { s with z := isZero (s.a &&& v), n := bit7 v, v := bit6 v }

end Sys2Proof.Machine
end

