-- ==== Sys2Proof/Machine/Operands.lean ====
section
/-! DEFINITION. The addressing-mode resolver (40_addressing_modes.md R90 to R106) and the shapes of
instruction that use it: read-type, write-type, read-modify-write, implied, branch. An instruction runs
from a state whose PC is its opcode's address; the shape advances PC past the instruction's bytes first
(R90), and an effect reads the state from there on. -/

namespace Sys2Proof.Machine

/-- A resolved memory mode: the instruction's length (R73), the addresses of the pointer bytes it reads,
in order (R64), and the effective address (R91). -/
structure Resolver where
  length : Nat
  pointer : State → List Word
  ea : State → Word

/-- The word whose two bytes lie in page 0 at `z` and `(z + 1) mod 256` (R101, R102). -/
def zeroPagePointer (z : Byte) (s : State) : Word := word (s.read (zext16 z)) (s.read (zext16 (z + 1#8)))

/-- ZP (R95): the operand byte is an address in page 0. -/
def zp (z : Byte) : Resolver := ⟨2, fun _ => [], fun _ => zext16 z⟩

/-- ZPX (R96): `(operand + X) mod 256`, always in page 0. -/
def zpx (z : Byte) : Resolver := ⟨2, fun _ => [], fun s => zext16 (z + s.x)⟩

/-- ZPY (R97): `(operand + Y) mod 256`, always in page 0. -/
def zpy (z : Byte) : Resolver := ⟨2, fun _ => [], fun s => zext16 (z + s.y)⟩

/-- ABS (R98): the operand word is the address. -/
def absolute (w : Word) : Resolver := ⟨3, fun _ => [], fun _ => w⟩

/-- ABX (R99): `(operand word + X) mod 65536`. -/
def abx (w : Word) : Resolver := ⟨3, fun _ => [], fun s => w + zext16 s.x⟩

/-- ABY (R100): `(operand word + Y) mod 65536`. -/
def aby (w : Word) : Resolver := ⟨3, fun _ => [], fun s => w + zext16 s.y⟩

/-- IZX (R101): the word in page 0 at `(operand + X) mod 256`. -/
def izx (z : Byte) : Resolver :=
  ⟨2, fun s => [zext16 (z + s.x), zext16 (z + s.x + 1#8)], fun s => zeroPagePointer (z + s.x) s⟩

/-- IZY (R102): the word in page 0 at the operand, plus Y `mod 65536`. -/
def izy (z : Byte) : Resolver :=
  ⟨2, fun _ => [zext16 z, zext16 (z + 1#8)], fun s => zeroPagePointer z s + zext16 s.y⟩

/-- Where mode IND reads the high byte of its target (R103): within the pointer's own page. -/
def indirectHighAddr (p : Word) : Word := (p &&& 0xFF00#16) ||| ((p + 1#16) &&& 0x00FF#16)

/-- IND (R103): the target word of `JMP (p)`, with the page-wrap defect. -/
def indirectTarget (p : Word) (s : State) : Word := word (s.read p) (s.read (indirectHighAddr p))

/-- REL (R104): the branch target, from a state whose PC is the opcode address plus 2. -/
def branchTarget (off : Byte) (s : State) : Word := s.pc + sext16 off

/-- An instruction of mode IMP (R92): one byte, then its effect. -/
def implied (f : State → State) (s : State) : Result := .next (f (s.advance 1))

/-- A read-type instruction in mode IMM (R94): the operand byte is the value. -/
def readImmediate (f : Byte → State → State) (v : Byte) (s : State) : Result := .next (f v (s.advance 2))

/-- A read-type instruction in a memory mode (R105): the value is the byte at the effective address. -/
def readFrom (f : Byte → State → State) (m : Resolver) (s : State) : Result :=
  let t := s.advance m.length
  .next (f (t.read (m.ea t)) t)

/-- A write-type instruction (R120): the register goes to the effective address. -/
def storeTo (register : State → Byte) (m : Resolver) (s : State) : Result :=
  let t := s.advance m.length
  .next (t.write (m.ea t) (register t))

/-- A shift or rotate in mode ACC (R93, R130): the operand is A and the result goes to A. -/
def modifyAccumulator (f : Byte → State → Byte × State) (s : State) : Result :=
  let t := s.advance 1
  let r := f t.a t
  .next { r.2 with a := r.1 }

/-- A read-modify-write instruction (R130): one read and one write at the effective address. -/
def modifyMemory (f : Byte → State → Byte × State) (m : Resolver) (s : State) : Result :=
  let t := s.advance m.length
  let r := f (t.read (m.ea t)) t
  .next (r.2.write (m.ea t) r.1)

/-- A conditional branch (R150): the displacement is always consumed; PC takes the target when the
condition holds. -/
def branchIf (cond : State → Bool) (off : Byte) (s : State) : Result :=
  let t := s.advance 2
  .next (if cond t then t.jump (branchTarget off t) else t)

end Sys2Proof.Machine
end

