-- ==== Sys2Proof/Machine/Arithmetic.lean ====
section
/-! DEFINITION. 41_arithmetic_logical.md R110 to R113: the arithmetic family. One meaning per row of the opcode table, from a state whose PC is the
opcode's address. -/

namespace Sys2Proof.Machine

/-- ADC IMM: add with carry (R111, R94). -/
def execAdcImm (v : Byte) (s : State) : Result := readImmediate addWithCarry v s

/-- ADC ZP: add with carry (R111, R95). -/
def execAdcZp (z : Byte) (s : State) : Result := readFrom addWithCarry (zp z) s

/-- ADC ZPX: add with carry (R111, R96). -/
def execAdcZpx (z : Byte) (s : State) : Result := readFrom addWithCarry (zpx z) s

/-- ADC ABS: add with carry (R111, R98). -/
def execAdcAbs (w : Word) (s : State) : Result := readFrom addWithCarry (absolute w) s

/-- ADC ABX: add with carry (R111, R99). -/
def execAdcAbx (w : Word) (s : State) : Result := readFrom addWithCarry (abx w) s

/-- ADC ABY: add with carry (R111, R100). -/
def execAdcAby (w : Word) (s : State) : Result := readFrom addWithCarry (aby w) s

/-- ADC IZX: add with carry (R111, R101). -/
def execAdcIzx (z : Byte) (s : State) : Result := readFrom addWithCarry (izx z) s

/-- ADC IZY: add with carry (R111, R102). -/
def execAdcIzy (z : Byte) (s : State) : Result := readFrom addWithCarry (izy z) s

/-- SBC IMM: subtract with carry (R113, R94). -/
def execSbcImm (v : Byte) (s : State) : Result := readImmediate (subtractWithBorrow config) v s

/-- SBC ZP: subtract with carry (R113, R95). -/
def execSbcZp (z : Byte) (s : State) : Result := readFrom (subtractWithBorrow config) (zp z) s

/-- SBC ZPX: subtract with carry (R113, R96). -/
def execSbcZpx (z : Byte) (s : State) : Result := readFrom (subtractWithBorrow config) (zpx z) s

/-- SBC ABS: subtract with carry (R113, R98). -/
def execSbcAbs (w : Word) (s : State) : Result := readFrom (subtractWithBorrow config) (absolute w) s

/-- SBC ABX: subtract with carry (R113, R99). -/
def execSbcAbx (w : Word) (s : State) : Result := readFrom (subtractWithBorrow config) (abx w) s

/-- SBC ABY: subtract with carry (R113, R100). -/
def execSbcAby (w : Word) (s : State) : Result := readFrom (subtractWithBorrow config) (aby w) s

/-- SBC IZX: subtract with carry (R113, R101). -/
def execSbcIzx (z : Byte) (s : State) : Result := readFrom (subtractWithBorrow config) (izx z) s

/-- SBC IZY: subtract with carry (R113, R102). -/
def execSbcIzy (z : Byte) (s : State) : Result := readFrom (subtractWithBorrow config) (izy z) s

end Sys2Proof.Machine
end

