-- ==== Sys2Proof/Machine/Branch.lean ====
section
/-! DEFINITION. 44_branch_jump.md R150 to R158: conditional branches. One meaning per row of the opcode table, from a state whose PC is the
opcode's address. -/

namespace Sys2Proof.Machine

/-- BCC REL: branch if carry clear (R151, R104). -/
def execBcc (off : Byte) (s : State) : Result := branchIf (fun t => !t.c) off s

/-- BCS REL: branch if carry set (R152, R104). -/
def execBcs (off : Byte) (s : State) : Result := branchIf State.c off s

/-- BEQ REL: branch if zero set (R153, R104). -/
def execBeq (off : Byte) (s : State) : Result := branchIf State.z off s

/-- BNE REL: branch if zero clear (R154, R104). -/
def execBne (off : Byte) (s : State) : Result := branchIf (fun t => !t.z) off s

/-- BPL REL: branch if negative clear (R155, R104). -/
def execBpl (off : Byte) (s : State) : Result := branchIf (fun t => !t.n) off s

/-- BMI REL: branch if negative set (R156, R104). -/
def execBmi (off : Byte) (s : State) : Result := branchIf State.n off s

/-- BVC REL: branch if overflow clear (R157, R104). -/
def execBvc (off : Byte) (s : State) : Result := branchIf (fun t => !t.v) off s

/-- BVS REL: branch if overflow set (R158, R104). -/
def execBvs (off : Byte) (s : State) : Result := branchIf State.v off s

end Sys2Proof.Machine
end

