-- ==== Sys2Proof/Machine/Compare.lean ====
section
/-! DEFINITION. 43_shift_compare_incdec.md R135 to R138: compares. One meaning per row of the opcode table, from a state whose PC is the
opcode's address. -/

namespace Sys2Proof.Machine

/-- CMP IMM: compare A (R136, R94). -/
def execCmpImm (v : Byte) (s : State) : Result := readImmediate (compareWith State.a) v s

/-- CMP ZP: compare A (R136, R95). -/
def execCmpZp (z : Byte) (s : State) : Result := readFrom (compareWith State.a) (zp z) s

/-- CMP ZPX: compare A (R136, R96). -/
def execCmpZpx (z : Byte) (s : State) : Result := readFrom (compareWith State.a) (zpx z) s

/-- CMP ABS: compare A (R136, R98). -/
def execCmpAbs (w : Word) (s : State) : Result := readFrom (compareWith State.a) (absolute w) s

/-- CMP ABX: compare A (R136, R99). -/
def execCmpAbx (w : Word) (s : State) : Result := readFrom (compareWith State.a) (abx w) s

/-- CMP ABY: compare A (R136, R100). -/
def execCmpAby (w : Word) (s : State) : Result := readFrom (compareWith State.a) (aby w) s

/-- CMP IZX: compare A (R136, R101). -/
def execCmpIzx (z : Byte) (s : State) : Result := readFrom (compareWith State.a) (izx z) s

/-- CMP IZY: compare A (R136, R102). -/
def execCmpIzy (z : Byte) (s : State) : Result := readFrom (compareWith State.a) (izy z) s

/-- CPX IMM: compare X (R137, R94). -/
def execCpxImm (v : Byte) (s : State) : Result := readImmediate (compareWith State.x) v s

/-- CPX ZP: compare X (R137, R95). -/
def execCpxZp (z : Byte) (s : State) : Result := readFrom (compareWith State.x) (zp z) s

/-- CPX ABS: compare X (R137, R98). -/
def execCpxAbs (w : Word) (s : State) : Result := readFrom (compareWith State.x) (absolute w) s

/-- CPY IMM: compare Y (R138, R94). -/
def execCpyImm (v : Byte) (s : State) : Result := readImmediate (compareWith State.y) v s

/-- CPY ZP: compare Y (R138, R95). -/
def execCpyZp (z : Byte) (s : State) : Result := readFrom (compareWith State.y) (zp z) s

/-- CPY ABS: compare Y (R138, R98). -/
def execCpyAbs (w : Word) (s : State) : Result := readFrom (compareWith State.y) (absolute w) s

end Sys2Proof.Machine
end

