-- ==== Sys2Proof/Machine/FlagControl.lean ====
section
/-! DEFINITION. 45_stack_flag_brk.md R175 to R182: flag control. One meaning per row of the opcode table, from a state whose PC is the
opcode's address. -/

namespace Sys2Proof.Machine

/-- CLC IMP: clear carry (R176, R92). -/
def execClc (s : State) : Result := implied (fun t => { t with c := false }) s

/-- CLD IMP: clear decimal (R177, R92). -/
def execCld (s : State) : Result := implied (fun t => { t with d := false }) s

/-- CLI IMP: clear interrupt-disable (R178, R92). -/
def execCli (s : State) : Result := implied (fun t => { t with i := false }) s

/-- CLV IMP: clear overflow (R179, R92). -/
def execClv (s : State) : Result := implied (fun t => { t with v := false }) s

/-- SEC IMP: set carry (R180, R92). -/
def execSec (s : State) : Result := implied (fun t => { t with c := true }) s

/-- SED IMP: set decimal (R181, R92). -/
def execSed (s : State) : Result := implied (fun t => { t with d := true }) s

/-- SEI IMP: set interrupt-disable (R182, R92). -/
def execSei (s : State) : Result := implied (fun t => { t with i := true }) s

end Sys2Proof.Machine
end

