-- ==== Sys2Proof/Machine/IncDec.lean ====
section
/-! DEFINITION. 43_shift_compare_incdec.md R139 to R144: increments and decrements. One meaning per row of the opcode table, from a state whose PC is the
opcode's address. -/

namespace Sys2Proof.Machine

/-- INC ZP: increment memory (R139, R95). -/
def execIncZp (z : Byte) (s : State) : Result := modifyMemory increment (zp z) s

/-- INC ZPX: increment memory (R139, R96). -/
def execIncZpx (z : Byte) (s : State) : Result := modifyMemory increment (zpx z) s

/-- INC ABS: increment memory (R139, R98). -/
def execIncAbs (w : Word) (s : State) : Result := modifyMemory increment (absolute w) s

/-- INC ABX: increment memory (R139, R99). -/
def execIncAbx (w : Word) (s : State) : Result := modifyMemory increment (abx w) s

/-- DEC ZP: decrement memory (R140, R95). -/
def execDecZp (z : Byte) (s : State) : Result := modifyMemory decrement (zp z) s

/-- DEC ZPX: decrement memory (R140, R96). -/
def execDecZpx (z : Byte) (s : State) : Result := modifyMemory decrement (zpx z) s

/-- DEC ABS: decrement memory (R140, R98). -/
def execDecAbs (w : Word) (s : State) : Result := modifyMemory decrement (absolute w) s

/-- DEC ABX: decrement memory (R140, R99). -/
def execDecAbx (w : Word) (s : State) : Result := modifyMemory decrement (abx w) s

/-- INX IMP: increment X (R141, R92). -/
def execInx (s : State) : Result := implied (fun t => loadX (t.x + 1#8) t) s

/-- INY IMP: increment Y (R142, R92). -/
def execIny (s : State) : Result := implied (fun t => loadY (t.y + 1#8) t) s

/-- DEX IMP: decrement X (R143, R92). -/
def execDex (s : State) : Result := implied (fun t => loadX (t.x - 1#8) t) s

/-- DEY IMP: decrement Y (R144, R92). -/
def execDey (s : State) : Result := implied (fun t => loadY (t.y - 1#8) t) s

end Sys2Proof.Machine
end

