-- ==== Sys2Proof/Machine/Interrupt.lean ====
section
/-! DEFINITION. 45_stack_flag_brk.md R183, 60_exceptions.md R204: the software interrupt. One meaning per row of the opcode table, from a state whose PC is the
opcode's address. -/

namespace Sys2Proof.Machine

/-- BRK IMP: software interrupt (R183, R92). -/
def execBrk (s : State) : Result := implied (takeTrap config) s

end Sys2Proof.Machine
end

