-- ==== Sys2Proof/Machine/Jump.lean ====
section
/-! DEFINITION. 44_branch_jump.md R159 to R162: jump, call, return. One meaning per row of the opcode table, from a state whose PC is the
opcode's address. -/

namespace Sys2Proof.Machine

/-- JMP ABS: jump (R159, R98). -/
def execJmpAbs (w : Word) (s : State) : Result := .next (s.jump w)

/-- JMP IND: jump (R159, R103). -/
def execJmpInd (p : Word) (s : State) : Result := .next (s.jump (indirectTarget p s))

/-- JSR ABS: jump to subroutine (R160, R98). -/
def execJsr (w : Word) (s : State) : Result :=
  let t := s.advance 3
  .next ((t.pushWord (t.pc - 1#16)).jump w)

/-- RTS IMP: return from subroutine (R161, R92). -/
def execRts (s : State) : Result := implied (fun t => t.pop.pop.jump (t.poppedWord + 1#16)) s

/-- RTI IMP: return from interrupt (R162, R92). -/
def execRti (s : State) : Result := implied returnFromTrap s

end Sys2Proof.Machine
end

