-- ==== Sys2Proof/Machine/LoadStore.lean ====
section
/-! DEFINITION. 42_load_store.md R120 to R126: loads and stores. One meaning per row of the opcode table, from a state whose PC is the
opcode's address. -/

namespace Sys2Proof.Machine

/-- LDA IMM: load accumulator (R121, R94). -/
def execLdaImm (v : Byte) (s : State) : Result := readImmediate loadA v s

/-- LDA ZP: load accumulator (R121, R95). -/
def execLdaZp (z : Byte) (s : State) : Result := readFrom loadA (zp z) s

/-- LDA ZPX: load accumulator (R121, R96). -/
def execLdaZpx (z : Byte) (s : State) : Result := readFrom loadA (zpx z) s

/-- LDA ABS: load accumulator (R121, R98). -/
def execLdaAbs (w : Word) (s : State) : Result := readFrom loadA (absolute w) s

/-- LDA ABX: load accumulator (R121, R99). -/
def execLdaAbx (w : Word) (s : State) : Result := readFrom loadA (abx w) s

/-- LDA ABY: load accumulator (R121, R100). -/
def execLdaAby (w : Word) (s : State) : Result := readFrom loadA (aby w) s

/-- LDA IZX: load accumulator (R121, R101). -/
def execLdaIzx (z : Byte) (s : State) : Result := readFrom loadA (izx z) s

/-- LDA IZY: load accumulator (R121, R102). -/
def execLdaIzy (z : Byte) (s : State) : Result := readFrom loadA (izy z) s

/-- LDX IMM: load X (R122, R94). -/
def execLdxImm (v : Byte) (s : State) : Result := readImmediate loadX v s

/-- LDX ZP: load X (R122, R95). -/
def execLdxZp (z : Byte) (s : State) : Result := readFrom loadX (zp z) s

/-- LDX ZPY: load X (R122, R97). -/
def execLdxZpy (z : Byte) (s : State) : Result := readFrom loadX (zpy z) s

/-- LDX ABS: load X (R122, R98). -/
def execLdxAbs (w : Word) (s : State) : Result := readFrom loadX (absolute w) s

/-- LDX ABY: load X (R122, R100). -/
def execLdxAby (w : Word) (s : State) : Result := readFrom loadX (aby w) s

/-- LDY IMM: load Y (R123, R94). -/
def execLdyImm (v : Byte) (s : State) : Result := readImmediate loadY v s

/-- LDY ZP: load Y (R123, R95). -/
def execLdyZp (z : Byte) (s : State) : Result := readFrom loadY (zp z) s

/-- LDY ZPX: load Y (R123, R96). -/
def execLdyZpx (z : Byte) (s : State) : Result := readFrom loadY (zpx z) s

/-- LDY ABS: load Y (R123, R98). -/
def execLdyAbs (w : Word) (s : State) : Result := readFrom loadY (absolute w) s

/-- LDY ABX: load Y (R123, R99). -/
def execLdyAbx (w : Word) (s : State) : Result := readFrom loadY (abx w) s

/-- STA ZP: store accumulator (R124, R95). -/
def execStaZp (z : Byte) (s : State) : Result := storeTo State.a (zp z) s

/-- STA ZPX: store accumulator (R124, R96). -/
def execStaZpx (z : Byte) (s : State) : Result := storeTo State.a (zpx z) s

/-- STA ABS: store accumulator (R124, R98). -/
def execStaAbs (w : Word) (s : State) : Result := storeTo State.a (absolute w) s

/-- STA ABX: store accumulator (R124, R99). -/
def execStaAbx (w : Word) (s : State) : Result := storeTo State.a (abx w) s

/-- STA ABY: store accumulator (R124, R100). -/
def execStaAby (w : Word) (s : State) : Result := storeTo State.a (aby w) s

/-- STA IZX: store accumulator (R124, R101). -/
def execStaIzx (z : Byte) (s : State) : Result := storeTo State.a (izx z) s

/-- STA IZY: store accumulator (R124, R102). -/
def execStaIzy (z : Byte) (s : State) : Result := storeTo State.a (izy z) s

/-- STX ZP: store X (R125, R95). -/
def execStxZp (z : Byte) (s : State) : Result := storeTo State.x (zp z) s

/-- STX ZPY: store X (R125, R97). -/
def execStxZpy (z : Byte) (s : State) : Result := storeTo State.x (zpy z) s

/-- STX ABS: store X (R125, R98). -/
def execStxAbs (w : Word) (s : State) : Result := storeTo State.x (absolute w) s

/-- STY ZP: store Y (R126, R95). -/
def execStyZp (z : Byte) (s : State) : Result := storeTo State.y (zp z) s

/-- STY ZPX: store Y (R126, R96). -/
def execStyZpx (z : Byte) (s : State) : Result := storeTo State.y (zpx z) s

/-- STY ABS: store Y (R126, R98). -/
def execStyAbs (w : Word) (s : State) : Result := storeTo State.y (absolute w) s

end Sys2Proof.Machine
end

