-- ==== Sys2Proof/Machine/Logical.lean ====
section
/-! DEFINITION. 41_arithmetic_logical.md R110, R114 to R116: the logical family. One meaning per row of the opcode table, from a state whose PC is the
opcode's address. -/

namespace Sys2Proof.Machine

/-- AND IMM: bitwise and (R114, R94). -/
def execAndImm (v : Byte) (s : State) : Result := readImmediate andA v s

/-- AND ZP: bitwise and (R114, R95). -/
def execAndZp (z : Byte) (s : State) : Result := readFrom andA (zp z) s

/-- AND ZPX: bitwise and (R114, R96). -/
def execAndZpx (z : Byte) (s : State) : Result := readFrom andA (zpx z) s

/-- AND ABS: bitwise and (R114, R98). -/
def execAndAbs (w : Word) (s : State) : Result := readFrom andA (absolute w) s

/-- AND ABX: bitwise and (R114, R99). -/
def execAndAbx (w : Word) (s : State) : Result := readFrom andA (abx w) s

/-- AND ABY: bitwise and (R114, R100). -/
def execAndAby (w : Word) (s : State) : Result := readFrom andA (aby w) s

/-- AND IZX: bitwise and (R114, R101). -/
def execAndIzx (z : Byte) (s : State) : Result := readFrom andA (izx z) s

/-- AND IZY: bitwise and (R114, R102). -/
def execAndIzy (z : Byte) (s : State) : Result := readFrom andA (izy z) s

/-- ORA IMM: bitwise inclusive or (R115, R94). -/
def execOraImm (v : Byte) (s : State) : Result := readImmediate orA v s

/-- ORA ZP: bitwise inclusive or (R115, R95). -/
def execOraZp (z : Byte) (s : State) : Result := readFrom orA (zp z) s

/-- ORA ZPX: bitwise inclusive or (R115, R96). -/
def execOraZpx (z : Byte) (s : State) : Result := readFrom orA (zpx z) s

/-- ORA ABS: bitwise inclusive or (R115, R98). -/
def execOraAbs (w : Word) (s : State) : Result := readFrom orA (absolute w) s

/-- ORA ABX: bitwise inclusive or (R115, R99). -/
def execOraAbx (w : Word) (s : State) : Result := readFrom orA (abx w) s

/-- ORA ABY: bitwise inclusive or (R115, R100). -/
def execOraAby (w : Word) (s : State) : Result := readFrom orA (aby w) s

/-- ORA IZX: bitwise inclusive or (R115, R101). -/
def execOraIzx (z : Byte) (s : State) : Result := readFrom orA (izx z) s

/-- ORA IZY: bitwise inclusive or (R115, R102). -/
def execOraIzy (z : Byte) (s : State) : Result := readFrom orA (izy z) s

/-- EOR IMM: bitwise exclusive or (R116, R94). -/
def execEorImm (v : Byte) (s : State) : Result := readImmediate xorA v s

/-- EOR ZP: bitwise exclusive or (R116, R95). -/
def execEorZp (z : Byte) (s : State) : Result := readFrom xorA (zp z) s

/-- EOR ZPX: bitwise exclusive or (R116, R96). -/
def execEorZpx (z : Byte) (s : State) : Result := readFrom xorA (zpx z) s

/-- EOR ABS: bitwise exclusive or (R116, R98). -/
def execEorAbs (w : Word) (s : State) : Result := readFrom xorA (absolute w) s

/-- EOR ABX: bitwise exclusive or (R116, R99). -/
def execEorAbx (w : Word) (s : State) : Result := readFrom xorA (abx w) s

/-- EOR ABY: bitwise exclusive or (R116, R100). -/
def execEorAby (w : Word) (s : State) : Result := readFrom xorA (aby w) s

/-- EOR IZX: bitwise exclusive or (R116, R101). -/
def execEorIzx (z : Byte) (s : State) : Result := readFrom xorA (izx z) s

/-- EOR IZY: bitwise exclusive or (R116, R102). -/
def execEorIzy (z : Byte) (s : State) : Result := readFrom xorA (izy z) s

end Sys2Proof.Machine
end

