-- ==== Sys2Proof/Machine/ShiftRotate.lean ====
section
/-! DEFINITION. 43_shift_compare_incdec.md R130 to R134: shifts and rotates. One meaning per row of the opcode table, from a state whose PC is the
opcode's address. -/

namespace Sys2Proof.Machine

/-- ASL ACC: arithmetic shift left (R131, R93). -/
def execAslAcc (s : State) : Result := modifyAccumulator shiftLeft s

/-- ASL ZP: arithmetic shift left (R131, R95). -/
def execAslZp (z : Byte) (s : State) : Result := modifyMemory shiftLeft (zp z) s

/-- ASL ZPX: arithmetic shift left (R131, R96). -/
def execAslZpx (z : Byte) (s : State) : Result := modifyMemory shiftLeft (zpx z) s

/-- ASL ABS: arithmetic shift left (R131, R98). -/
def execAslAbs (w : Word) (s : State) : Result := modifyMemory shiftLeft (absolute w) s

/-- ASL ABX: arithmetic shift left (R131, R99). -/
def execAslAbx (w : Word) (s : State) : Result := modifyMemory shiftLeft (abx w) s

/-- LSR ACC: logical shift right (R132, R93). -/
def execLsrAcc (s : State) : Result := modifyAccumulator shiftRight s

/-- LSR ZP: logical shift right (R132, R95). -/
def execLsrZp (z : Byte) (s : State) : Result := modifyMemory shiftRight (zp z) s

/-- LSR ZPX: logical shift right (R132, R96). -/
def execLsrZpx (z : Byte) (s : State) : Result := modifyMemory shiftRight (zpx z) s

/-- LSR ABS: logical shift right (R132, R98). -/
def execLsrAbs (w : Word) (s : State) : Result := modifyMemory shiftRight (absolute w) s

/-- LSR ABX: logical shift right (R132, R99). -/
def execLsrAbx (w : Word) (s : State) : Result := modifyMemory shiftRight (abx w) s

/-- ROL ACC: rotate left through carry (R133, R93). -/
def execRolAcc (s : State) : Result := modifyAccumulator rotateLeft s

/-- ROL ZP: rotate left through carry (R133, R95). -/
def execRolZp (z : Byte) (s : State) : Result := modifyMemory rotateLeft (zp z) s

/-- ROL ZPX: rotate left through carry (R133, R96). -/
def execRolZpx (z : Byte) (s : State) : Result := modifyMemory rotateLeft (zpx z) s

/-- ROL ABS: rotate left through carry (R133, R98). -/
def execRolAbs (w : Word) (s : State) : Result := modifyMemory rotateLeft (absolute w) s

/-- ROL ABX: rotate left through carry (R133, R99). -/
def execRolAbx (w : Word) (s : State) : Result := modifyMemory rotateLeft (abx w) s

/-- ROR ACC: rotate right through carry (R134, R93). -/
def execRorAcc (s : State) : Result := modifyAccumulator rotateRight s

/-- ROR ZP: rotate right through carry (R134, R95). -/
def execRorZp (z : Byte) (s : State) : Result := modifyMemory rotateRight (zp z) s

/-- ROR ZPX: rotate right through carry (R134, R96). -/
def execRorZpx (z : Byte) (s : State) : Result := modifyMemory rotateRight (zpx z) s

/-- ROR ABS: rotate right through carry (R134, R98). -/
def execRorAbs (w : Word) (s : State) : Result := modifyMemory rotateRight (absolute w) s

/-- ROR ABX: rotate right through carry (R134, R99). -/
def execRorAbx (w : Word) (s : State) : Result := modifyMemory rotateRight (abx w) s

end Sys2Proof.Machine
end

