-- ==== Sys2Proof/Machine/Stack.lean ====
section
/-! DEFINITION. 45_stack_flag_brk.md R170 to R174: stack instructions. One meaning per row of the opcode table, from a state whose PC is the
opcode's address. -/

namespace Sys2Proof.Machine

/-- PHA IMP: push accumulator (R171, R92). -/
def execPha (s : State) : Result := implied (fun t => t.push t.a) s

/-- PLA IMP: pull accumulator (R172, R92). -/
def execPla (s : State) : Result := implied (fun t => loadA t.popped t.pop) s

/-- PHP IMP: push processor status (R173, R92). -/
def execPhp (s : State) : Result := implied (fun t => t.push t.packP) s

/-- PLP IMP: pull processor status (R174, R92). -/
def execPlp (s : State) : Result := implied (fun t => t.pop.unpackP t.popped) s

end Sys2Proof.Machine
end

