-- ==== Sys2Proof/Machine/Transfer.lean ====
section
/-! DEFINITION. 46_transfer_misc.md R190 to R198: transfers, BIT, NOP. One meaning per row of the opcode table, from a state whose PC is the
opcode's address. -/

namespace Sys2Proof.Machine

/-- TAX IMP: transfer A to X (R191, R92). -/
def execTax (s : State) : Result := implied (fun t => loadX t.a t) s

/-- TAY IMP: transfer A to Y (R192, R92). -/
def execTay (s : State) : Result := implied (fun t => loadY t.a t) s

/-- TSX IMP: transfer S to X (R193, R92). -/
def execTsx (s : State) : Result := implied (fun t => loadX t.sp t) s

/-- TXA IMP: transfer X to A (R194, R92). -/
def execTxa (s : State) : Result := implied (fun t => loadA t.x t) s

/-- TXS IMP: transfer X to S (R195, R92). -/
def execTxs (s : State) : Result := implied (fun t => { t with sp := t.x }) s

/-- TYA IMP: transfer Y to A (R196, R92). -/
def execTya (s : State) : Result := implied (fun t => loadA t.y t) s

/-- BIT ZP: bit test (R197, R95). -/
def execBitZp (z : Byte) (s : State) : Result := readFrom bitTest (zp z) s

/-- BIT ABS: bit test (R197, R98). -/
def execBitAbs (w : Word) (s : State) : Result := readFrom bitTest (absolute w) s

/-- NOP IMP: no operation (R198, R92). -/
def execNop (s : State) : Result := implied (fun t => t) s

end Sys2Proof.Machine
end

