-- ==== Sys2Proof/Syntax.lean ====
section
/-! DEFINITION. The instructions, one constructor per row of spec/opcode_table.json (30_encoding.md R74):
151 rows, named by mnemonic and addressing mode. An argument is the operand of R79: `v` the immediate
byte, `z` the zero-page byte, `w` the operand word, `p` the pointer word, `off` the displacement byte.
Every operand value is legal in every format (R80), so every term is an instruction. -/

namespace Sys2Proof

inductive Instr where
  /-- ADC IMM, add with carry, opcode 69 (R111, R94). -/
  | adcImm (v : Byte)
  /-- ADC ZP, add with carry, opcode 65 (R111, R95). -/
  | adcZp (z : Byte)
  /-- ADC ZPX, add with carry, opcode 75 (R111, R96). -/
  | adcZpx (z : Byte)
  /-- ADC ABS, add with carry, opcode 6D (R111, R98). -/
  | adcAbs (w : Word)
  /-- ADC ABX, add with carry, opcode 7D (R111, R99). -/
  | adcAbx (w : Word)
  /-- ADC ABY, add with carry, opcode 79 (R111, R100). -/
  | adcAby (w : Word)
  /-- ADC IZX, add with carry, opcode 61 (R111, R101). -/
  | adcIzx (z : Byte)
  /-- ADC IZY, add with carry, opcode 71 (R111, R102). -/
  | adcIzy (z : Byte)
  /-- SBC IMM, subtract with carry, opcode E9 (R113, R94). -/
  | sbcImm (v : Byte)
  /-- SBC ZP, subtract with carry, opcode E5 (R113, R95). -/
  | sbcZp (z : Byte)
  /-- SBC ZPX, subtract with carry, opcode F5 (R113, R96). -/
  | sbcZpx (z : Byte)
  /-- SBC ABS, subtract with carry, opcode ED (R113, R98). -/
  | sbcAbs (w : Word)
  /-- SBC ABX, subtract with carry, opcode FD (R113, R99). -/
  | sbcAbx (w : Word)
  /-- SBC ABY, subtract with carry, opcode F9 (R113, R100). -/
  | sbcAby (w : Word)
  /-- SBC IZX, subtract with carry, opcode E1 (R113, R101). -/
  | sbcIzx (z : Byte)
  /-- SBC IZY, subtract with carry, opcode F1 (R113, R102). -/
  | sbcIzy (z : Byte)
  /-- AND IMM, bitwise and, opcode 29 (R114, R94). -/
  | andImm (v : Byte)
  /-- AND ZP, bitwise and, opcode 25 (R114, R95). -/
  | andZp (z : Byte)
  /-- AND ZPX, bitwise and, opcode 35 (R114, R96). -/
  | andZpx (z : Byte)
  /-- AND ABS, bitwise and, opcode 2D (R114, R98). -/
  | andAbs (w : Word)
  /-- AND ABX, bitwise and, opcode 3D (R114, R99). -/
  | andAbx (w : Word)
  /-- AND ABY, bitwise and, opcode 39 (R114, R100). -/
  | andAby (w : Word)
  /-- AND IZX, bitwise and, opcode 21 (R114, R101). -/
  | andIzx (z : Byte)
  /-- AND IZY, bitwise and, opcode 31 (R114, R102). -/
  | andIzy (z : Byte)
  /-- ORA IMM, bitwise inclusive or, opcode 09 (R115, R94). -/
  | oraImm (v : Byte)
  /-- ORA ZP, bitwise inclusive or, opcode 05 (R115, R95). -/
  | oraZp (z : Byte)
  /-- ORA ZPX, bitwise inclusive or, opcode 15 (R115, R96). -/
  | oraZpx (z : Byte)
  /-- ORA ABS, bitwise inclusive or, opcode 0D (R115, R98). -/
  | oraAbs (w : Word)
  /-- ORA ABX, bitwise inclusive or, opcode 1D (R115, R99). -/
  | oraAbx (w : Word)
  /-- ORA ABY, bitwise inclusive or, opcode 19 (R115, R100). -/
  | oraAby (w : Word)
  /-- ORA IZX, bitwise inclusive or, opcode 01 (R115, R101). -/
  | oraIzx (z : Byte)
  /-- ORA IZY, bitwise inclusive or, opcode 11 (R115, R102). -/
  | oraIzy (z : Byte)
  /-- EOR IMM, bitwise exclusive or, opcode 49 (R116, R94). -/
  | eorImm (v : Byte)
  /-- EOR ZP, bitwise exclusive or, opcode 45 (R116, R95). -/
  | eorZp (z : Byte)
  /-- EOR ZPX, bitwise exclusive or, opcode 55 (R116, R96). -/
  | eorZpx (z : Byte)
  /-- EOR ABS, bitwise exclusive or, opcode 4D (R116, R98). -/
  | eorAbs (w : Word)
  /-- EOR ABX, bitwise exclusive or, opcode 5D (R116, R99). -/
  | eorAbx (w : Word)
  /-- EOR ABY, bitwise exclusive or, opcode 59 (R116, R100). -/
  | eorAby (w : Word)
  /-- EOR IZX, bitwise exclusive or, opcode 41 (R116, R101). -/
  | eorIzx (z : Byte)
  /-- EOR IZY, bitwise exclusive or, opcode 51 (R116, R102). -/
  | eorIzy (z : Byte)
  /-- LDA IMM, load accumulator, opcode A9 (R121, R94). -/
  | ldaImm (v : Byte)
  /-- LDA ZP, load accumulator, opcode A5 (R121, R95). -/
  | ldaZp (z : Byte)
  /-- LDA ZPX, load accumulator, opcode B5 (R121, R96). -/
  | ldaZpx (z : Byte)
  /-- LDA ABS, load accumulator, opcode AD (R121, R98). -/
  | ldaAbs (w : Word)
  /-- LDA ABX, load accumulator, opcode BD (R121, R99). -/
  | ldaAbx (w : Word)
  /-- LDA ABY, load accumulator, opcode B9 (R121, R100). -/
  | ldaAby (w : Word)
  /-- LDA IZX, load accumulator, opcode A1 (R121, R101). -/
  | ldaIzx (z : Byte)
  /-- LDA IZY, load accumulator, opcode B1 (R121, R102). -/
  | ldaIzy (z : Byte)
  /-- LDX IMM, load X, opcode A2 (R122, R94). -/
  | ldxImm (v : Byte)
  /-- LDX ZP, load X, opcode A6 (R122, R95). -/
  | ldxZp (z : Byte)
  /-- LDX ZPY, load X, opcode B6 (R122, R97). -/
  | ldxZpy (z : Byte)
  /-- LDX ABS, load X, opcode AE (R122, R98). -/
  | ldxAbs (w : Word)
  /-- LDX ABY, load X, opcode BE (R122, R100). -/
  | ldxAby (w : Word)
  /-- LDY IMM, load Y, opcode A0 (R123, R94). -/
  | ldyImm (v : Byte)
  /-- LDY ZP, load Y, opcode A4 (R123, R95). -/
  | ldyZp (z : Byte)
  /-- LDY ZPX, load Y, opcode B4 (R123, R96). -/
  | ldyZpx (z : Byte)
  /-- LDY ABS, load Y, opcode AC (R123, R98). -/
  | ldyAbs (w : Word)
  /-- LDY ABX, load Y, opcode BC (R123, R99). -/
  | ldyAbx (w : Word)
  /-- STA ZP, store accumulator, opcode 85 (R124, R95). -/
  | staZp (z : Byte)
  /-- STA ZPX, store accumulator, opcode 95 (R124, R96). -/
  | staZpx (z : Byte)
  /-- STA ABS, store accumulator, opcode 8D (R124, R98). -/
  | staAbs (w : Word)
  /-- STA ABX, store accumulator, opcode 9D (R124, R99). -/
  | staAbx (w : Word)
  /-- STA ABY, store accumulator, opcode 99 (R124, R100). -/
  | staAby (w : Word)
  /-- STA IZX, store accumulator, opcode 81 (R124, R101). -/
  | staIzx (z : Byte)
  /-- STA IZY, store accumulator, opcode 91 (R124, R102). -/
  | staIzy (z : Byte)
  /-- STX ZP, store X, opcode 86 (R125, R95). -/
  | stxZp (z : Byte)
  /-- STX ZPY, store X, opcode 96 (R125, R97). -/
  | stxZpy (z : Byte)
  /-- STX ABS, store X, opcode 8E (R125, R98). -/
  | stxAbs (w : Word)
  /-- STY ZP, store Y, opcode 84 (R126, R95). -/
  | styZp (z : Byte)
  /-- STY ZPX, store Y, opcode 94 (R126, R96). -/
  | styZpx (z : Byte)
  /-- STY ABS, store Y, opcode 8C (R126, R98). -/
  | styAbs (w : Word)
  /-- ASL ACC, arithmetic shift left, opcode 0A (R131, R93). -/
  | aslAcc
  /-- ASL ZP, arithmetic shift left, opcode 06 (R131, R95). -/
  | aslZp (z : Byte)
  /-- ASL ZPX, arithmetic shift left, opcode 16 (R131, R96). -/
  | aslZpx (z : Byte)
  /-- ASL ABS, arithmetic shift left, opcode 0E (R131, R98). -/
  | aslAbs (w : Word)
  /-- ASL ABX, arithmetic shift left, opcode 1E (R131, R99). -/
  | aslAbx (w : Word)
  /-- LSR ACC, logical shift right, opcode 4A (R132, R93). -/
  | lsrAcc
  /-- LSR ZP, logical shift right, opcode 46 (R132, R95). -/
  | lsrZp (z : Byte)
  /-- LSR ZPX, logical shift right, opcode 56 (R132, R96). -/
  | lsrZpx (z : Byte)
  /-- LSR ABS, logical shift right, opcode 4E (R132, R98). -/
  | lsrAbs (w : Word)
  /-- LSR ABX, logical shift right, opcode 5E (R132, R99). -/
  | lsrAbx (w : Word)
  /-- ROL ACC, rotate left through carry, opcode 2A (R133, R93). -/
  | rolAcc
  /-- ROL ZP, rotate left through carry, opcode 26 (R133, R95). -/
  | rolZp (z : Byte)
  /-- ROL ZPX, rotate left through carry, opcode 36 (R133, R96). -/
  | rolZpx (z : Byte)
  /-- ROL ABS, rotate left through carry, opcode 2E (R133, R98). -/
  | rolAbs (w : Word)
  /-- ROL ABX, rotate left through carry, opcode 3E (R133, R99). -/
  | rolAbx (w : Word)
  /-- ROR ACC, rotate right through carry, opcode 6A (R134, R93). -/
  | rorAcc
  /-- ROR ZP, rotate right through carry, opcode 66 (R134, R95). -/
  | rorZp (z : Byte)
  /-- ROR ZPX, rotate right through carry, opcode 76 (R134, R96). -/
  | rorZpx (z : Byte)
  /-- ROR ABS, rotate right through carry, opcode 6E (R134, R98). -/
  | rorAbs (w : Word)
  /-- ROR ABX, rotate right through carry, opcode 7E (R134, R99). -/
  | rorAbx (w : Word)
  /-- CMP IMM, compare A, opcode C9 (R136, R94). -/
  | cmpImm (v : Byte)
  /-- CMP ZP, compare A, opcode C5 (R136, R95). -/
  | cmpZp (z : Byte)
  /-- CMP ZPX, compare A, opcode D5 (R136, R96). -/
  | cmpZpx (z : Byte)
  /-- CMP ABS, compare A, opcode CD (R136, R98). -/
  | cmpAbs (w : Word)
  /-- CMP ABX, compare A, opcode DD (R136, R99). -/
  | cmpAbx (w : Word)
  /-- CMP ABY, compare A, opcode D9 (R136, R100). -/
  | cmpAby (w : Word)
  /-- CMP IZX, compare A, opcode C1 (R136, R101). -/
  | cmpIzx (z : Byte)
  /-- CMP IZY, compare A, opcode D1 (R136, R102). -/
  | cmpIzy (z : Byte)
  /-- CPX IMM, compare X, opcode E0 (R137, R94). -/
  | cpxImm (v : Byte)
  /-- CPX ZP, compare X, opcode E4 (R137, R95). -/
  | cpxZp (z : Byte)
  /-- CPX ABS, compare X, opcode EC (R137, R98). -/
  | cpxAbs (w : Word)
  /-- CPY IMM, compare Y, opcode C0 (R138, R94). -/
  | cpyImm (v : Byte)
  /-- CPY ZP, compare Y, opcode C4 (R138, R95). -/
  | cpyZp (z : Byte)
  /-- CPY ABS, compare Y, opcode CC (R138, R98). -/
  | cpyAbs (w : Word)
  /-- INC ZP, increment memory, opcode E6 (R139, R95). -/
  | incZp (z : Byte)
  /-- INC ZPX, increment memory, opcode F6 (R139, R96). -/
  | incZpx (z : Byte)
  /-- INC ABS, increment memory, opcode EE (R139, R98). -/
  | incAbs (w : Word)
  /-- INC ABX, increment memory, opcode FE (R139, R99). -/
  | incAbx (w : Word)
  /-- DEC ZP, decrement memory, opcode C6 (R140, R95). -/
  | decZp (z : Byte)
  /-- DEC ZPX, decrement memory, opcode D6 (R140, R96). -/
  | decZpx (z : Byte)
  /-- DEC ABS, decrement memory, opcode CE (R140, R98). -/
  | decAbs (w : Word)
  /-- DEC ABX, decrement memory, opcode DE (R140, R99). -/
  | decAbx (w : Word)
  /-- INX IMP, increment X, opcode E8 (R141, R92). -/
  | inx
  /-- INY IMP, increment Y, opcode C8 (R142, R92). -/
  | iny
  /-- DEX IMP, decrement X, opcode CA (R143, R92). -/
  | dex
  /-- DEY IMP, decrement Y, opcode 88 (R144, R92). -/
  | dey
  /-- BCC REL, branch if carry clear, opcode 90 (R151, R104). -/
  | bcc (off : Byte)
  /-- BCS REL, branch if carry set, opcode B0 (R152, R104). -/
  | bcs (off : Byte)
  /-- BEQ REL, branch if zero set, opcode F0 (R153, R104). -/
  | beq (off : Byte)
  /-- BNE REL, branch if zero clear, opcode D0 (R154, R104). -/
  | bne (off : Byte)
  /-- BPL REL, branch if negative clear, opcode 10 (R155, R104). -/
  | bpl (off : Byte)
  /-- BMI REL, branch if negative set, opcode 30 (R156, R104). -/
  | bmi (off : Byte)
  /-- BVC REL, branch if overflow clear, opcode 50 (R157, R104). -/
  | bvc (off : Byte)
  /-- BVS REL, branch if overflow set, opcode 70 (R158, R104). -/
  | bvs (off : Byte)
  /-- JMP ABS, jump, opcode 4C (R159, R98). -/
  | jmpAbs (w : Word)
  /-- JMP IND, jump, opcode 6C (R159, R103). -/
  | jmpInd (p : Word)
  /-- JSR ABS, jump to subroutine, opcode 20 (R160, R98). -/
  | jsr (w : Word)
  /-- RTS IMP, return from subroutine, opcode 60 (R161, R92). -/
  | rts
  /-- RTI IMP, return from interrupt, opcode 40 (R162, R92). -/
  | rti
  /-- PHA IMP, push accumulator, opcode 48 (R171, R92). -/
  | pha
  /-- PLA IMP, pull accumulator, opcode 68 (R172, R92). -/
  | pla
  /-- PHP IMP, push processor status, opcode 08 (R173, R92). -/
  | php
  /-- PLP IMP, pull processor status, opcode 28 (R174, R92). -/
  | plp
  /-- CLC IMP, clear carry, opcode 18 (R176, R92). -/
  | clc
  /-- CLD IMP, clear decimal, opcode D8 (R177, R92). -/
  | cld
  /-- CLI IMP, clear interrupt-disable, opcode 58 (R178, R92). -/
  | cli
  /-- CLV IMP, clear overflow, opcode B8 (R179, R92). -/
  | clv
  /-- SEC IMP, set carry, opcode 38 (R180, R92). -/
  | sec
  /-- SED IMP, set decimal, opcode F8 (R181, R92). -/
  | sed
  /-- SEI IMP, set interrupt-disable, opcode 78 (R182, R92). -/
  | sei
  /-- BRK IMP, software interrupt, opcode 00 (R183, R92). -/
  | brk
  /-- TAX IMP, transfer A to X, opcode AA (R191, R92). -/
  | tax
  /-- TAY IMP, transfer A to Y, opcode A8 (R192, R92). -/
  | tay
  /-- TSX IMP, transfer S to X, opcode BA (R193, R92). -/
  | tsx
  /-- TXA IMP, transfer X to A, opcode 8A (R194, R92). -/
  | txa
  /-- TXS IMP, transfer X to S, opcode 9A (R195, R92). -/
  | txs
  /-- TYA IMP, transfer Y to A, opcode 98 (R196, R92). -/
  | tya
  /-- BIT ZP, bit test, opcode 24 (R197, R95). -/
  | bitZp (z : Byte)
  /-- BIT ABS, bit test, opcode 2C (R197, R98). -/
  | bitAbs (w : Word)
  /-- NOP IMP, no operation, opcode EA (R198, R92). -/
  | nop
  deriving DecidableEq, Repr

end Sys2Proof
end

