-- ==== Sys2Proof/Decode.lean ====
section
/-! DEFINITION. Decoding (`instruction_dispatch_logic`, 30_encoding.md R70 to R83) and, after it, the
encoder. The opcode table is data: one row per row of spec/opcode_table.json, by the high digit of the
opcode byte as R74 prints it. Decoding is total on any bytes and rejects by name. -/

namespace Sys2Proof

open Machine (word lo hi)

/-- The thirteen formats of R73, one per addressing mode. -/
inductive Mode where
  /-- IMP (R92), 1 byte. -/
  | imp
  /-- ACC (R93), 1 byte. -/
  | acc
  /-- IMM (R94), 2 bytes. -/
  | imm
  /-- ZP (R95), 2 bytes. -/
  | zp
  /-- ZPX (R96), 2 bytes. -/
  | zpx
  /-- ZPY (R97), 2 bytes. -/
  | zpy
  /-- ABS (R98), 3 bytes. -/
  | abs
  /-- ABX (R99), 3 bytes. -/
  | abx
  /-- ABY (R100), 3 bytes. -/
  | aby
  /-- IZX (R101), 2 bytes. -/
  | izx
  /-- IZY (R102), 2 bytes. -/
  | izy
  /-- IND (R103), 3 bytes. -/
  | ind
  /-- REL (R104), 2 bytes. -/
  | rel
  deriving DecidableEq, Repr

/-- The instruction length of a format, opcode included (R73). -/
def Mode.length : Mode → Nat
  | .imp | .acc => 1
  | .imm | .zp | .zpx | .zpy | .izx | .izy | .rel => 2
  | .abs | .abx | .aby | .ind => 3

/-- A row of the opcode map: the opcode byte, its format, and the instruction its operand bytes make
(byte 1 and byte 2; a format without one ignores it). -/
structure OpcodeRow where
  opcode : Byte
  mode : Mode
  build : Byte → Byte → Instr

/-- Row 0x of the map of R74. -/
def opcodeRows0 : List OpcodeRow :=
  [ ⟨0x00#8, .imp, fun _ _ => .brk⟩,
    ⟨0x01#8, .izx, fun b1 _ => .oraIzx b1⟩,
    ⟨0x05#8, .zp, fun b1 _ => .oraZp b1⟩,
    ⟨0x06#8, .zp, fun b1 _ => .aslZp b1⟩,
    ⟨0x08#8, .imp, fun _ _ => .php⟩,
    ⟨0x09#8, .imm, fun b1 _ => .oraImm b1⟩,
    ⟨0x0A#8, .acc, fun _ _ => .aslAcc⟩,
    ⟨0x0D#8, .abs, fun b1 b2 => .oraAbs (word b1 b2)⟩,
    ⟨0x0E#8, .abs, fun b1 b2 => .aslAbs (word b1 b2)⟩ ]

/-- Row 1x of the map of R74. -/
def opcodeRows1 : List OpcodeRow :=
  [ ⟨0x10#8, .rel, fun b1 _ => .bpl b1⟩,
    ⟨0x11#8, .izy, fun b1 _ => .oraIzy b1⟩,
    ⟨0x15#8, .zpx, fun b1 _ => .oraZpx b1⟩,
    ⟨0x16#8, .zpx, fun b1 _ => .aslZpx b1⟩,
    ⟨0x18#8, .imp, fun _ _ => .clc⟩,
    ⟨0x19#8, .aby, fun b1 b2 => .oraAby (word b1 b2)⟩,
    ⟨0x1D#8, .abx, fun b1 b2 => .oraAbx (word b1 b2)⟩,
    ⟨0x1E#8, .abx, fun b1 b2 => .aslAbx (word b1 b2)⟩ ]

/-- Row 2x of the map of R74. -/
def opcodeRows2 : List OpcodeRow :=
  [ ⟨0x20#8, .abs, fun b1 b2 => .jsr (word b1 b2)⟩,
    ⟨0x21#8, .izx, fun b1 _ => .andIzx b1⟩,
    ⟨0x24#8, .zp, fun b1 _ => .bitZp b1⟩,
    ⟨0x25#8, .zp, fun b1 _ => .andZp b1⟩,
    ⟨0x26#8, .zp, fun b1 _ => .rolZp b1⟩,
    ⟨0x28#8, .imp, fun _ _ => .plp⟩,
    ⟨0x29#8, .imm, fun b1 _ => .andImm b1⟩,
    ⟨0x2A#8, .acc, fun _ _ => .rolAcc⟩,
    ⟨0x2C#8, .abs, fun b1 b2 => .bitAbs (word b1 b2)⟩,
    ⟨0x2D#8, .abs, fun b1 b2 => .andAbs (word b1 b2)⟩,
    ⟨0x2E#8, .abs, fun b1 b2 => .rolAbs (word b1 b2)⟩ ]

/-- Row 3x of the map of R74. -/
def opcodeRows3 : List OpcodeRow :=
  [ ⟨0x30#8, .rel, fun b1 _ => .bmi b1⟩,
    ⟨0x31#8, .izy, fun b1 _ => .andIzy b1⟩,
    ⟨0x35#8, .zpx, fun b1 _ => .andZpx b1⟩,
    ⟨0x36#8, .zpx, fun b1 _ => .rolZpx b1⟩,
    ⟨0x38#8, .imp, fun _ _ => .sec⟩,
    ⟨0x39#8, .aby, fun b1 b2 => .andAby (word b1 b2)⟩,
    ⟨0x3D#8, .abx, fun b1 b2 => .andAbx (word b1 b2)⟩,
    ⟨0x3E#8, .abx, fun b1 b2 => .rolAbx (word b1 b2)⟩ ]

/-- Row 4x of the map of R74. -/
def opcodeRows4 : List OpcodeRow :=
  [ ⟨0x40#8, .imp, fun _ _ => .rti⟩,
    ⟨0x41#8, .izx, fun b1 _ => .eorIzx b1⟩,
    ⟨0x45#8, .zp, fun b1 _ => .eorZp b1⟩,
    ⟨0x46#8, .zp, fun b1 _ => .lsrZp b1⟩,
    ⟨0x48#8, .imp, fun _ _ => .pha⟩,
    ⟨0x49#8, .imm, fun b1 _ => .eorImm b1⟩,
    ⟨0x4A#8, .acc, fun _ _ => .lsrAcc⟩,
    ⟨0x4C#8, .abs, fun b1 b2 => .jmpAbs (word b1 b2)⟩,
    ⟨0x4D#8, .abs, fun b1 b2 => .eorAbs (word b1 b2)⟩,
    ⟨0x4E#8, .abs, fun b1 b2 => .lsrAbs (word b1 b2)⟩ ]

/-- Row 5x of the map of R74. -/
def opcodeRows5 : List OpcodeRow :=
  [ ⟨0x50#8, .rel, fun b1 _ => .bvc b1⟩,
    ⟨0x51#8, .izy, fun b1 _ => .eorIzy b1⟩,
    ⟨0x55#8, .zpx, fun b1 _ => .eorZpx b1⟩,
    ⟨0x56#8, .zpx, fun b1 _ => .lsrZpx b1⟩,
    ⟨0x58#8, .imp, fun _ _ => .cli⟩,
    ⟨0x59#8, .aby, fun b1 b2 => .eorAby (word b1 b2)⟩,
    ⟨0x5D#8, .abx, fun b1 b2 => .eorAbx (word b1 b2)⟩,
    ⟨0x5E#8, .abx, fun b1 b2 => .lsrAbx (word b1 b2)⟩ ]

/-- Row 6x of the map of R74. -/
def opcodeRows6 : List OpcodeRow :=
  [ ⟨0x60#8, .imp, fun _ _ => .rts⟩,
    ⟨0x61#8, .izx, fun b1 _ => .adcIzx b1⟩,
    ⟨0x65#8, .zp, fun b1 _ => .adcZp b1⟩,
    ⟨0x66#8, .zp, fun b1 _ => .rorZp b1⟩,
    ⟨0x68#8, .imp, fun _ _ => .pla⟩,
    ⟨0x69#8, .imm, fun b1 _ => .adcImm b1⟩,
    ⟨0x6A#8, .acc, fun _ _ => .rorAcc⟩,
    ⟨0x6C#8, .ind, fun b1 b2 => .jmpInd (word b1 b2)⟩,
    ⟨0x6D#8, .abs, fun b1 b2 => .adcAbs (word b1 b2)⟩,
    ⟨0x6E#8, .abs, fun b1 b2 => .rorAbs (word b1 b2)⟩ ]

/-- Row 7x of the map of R74. -/
def opcodeRows7 : List OpcodeRow :=
  [ ⟨0x70#8, .rel, fun b1 _ => .bvs b1⟩,
    ⟨0x71#8, .izy, fun b1 _ => .adcIzy b1⟩,
    ⟨0x75#8, .zpx, fun b1 _ => .adcZpx b1⟩,
    ⟨0x76#8, .zpx, fun b1 _ => .rorZpx b1⟩,
    ⟨0x78#8, .imp, fun _ _ => .sei⟩,
    ⟨0x79#8, .aby, fun b1 b2 => .adcAby (word b1 b2)⟩,
    ⟨0x7D#8, .abx, fun b1 b2 => .adcAbx (word b1 b2)⟩,
    ⟨0x7E#8, .abx, fun b1 b2 => .rorAbx (word b1 b2)⟩ ]

/-- Row 8x of the map of R74. -/
def opcodeRows8 : List OpcodeRow :=
  [ ⟨0x81#8, .izx, fun b1 _ => .staIzx b1⟩,
    ⟨0x84#8, .zp, fun b1 _ => .styZp b1⟩,
    ⟨0x85#8, .zp, fun b1 _ => .staZp b1⟩,
    ⟨0x86#8, .zp, fun b1 _ => .stxZp b1⟩,
    ⟨0x88#8, .imp, fun _ _ => .dey⟩,
    ⟨0x8A#8, .imp, fun _ _ => .txa⟩,
    ⟨0x8C#8, .abs, fun b1 b2 => .styAbs (word b1 b2)⟩,
    ⟨0x8D#8, .abs, fun b1 b2 => .staAbs (word b1 b2)⟩,
    ⟨0x8E#8, .abs, fun b1 b2 => .stxAbs (word b1 b2)⟩ ]

/-- Row 9x of the map of R74. -/
def opcodeRows9 : List OpcodeRow :=
  [ ⟨0x90#8, .rel, fun b1 _ => .bcc b1⟩,
    ⟨0x91#8, .izy, fun b1 _ => .staIzy b1⟩,
    ⟨0x94#8, .zpx, fun b1 _ => .styZpx b1⟩,
    ⟨0x95#8, .zpx, fun b1 _ => .staZpx b1⟩,
    ⟨0x96#8, .zpy, fun b1 _ => .stxZpy b1⟩,
    ⟨0x98#8, .imp, fun _ _ => .tya⟩,
    ⟨0x99#8, .aby, fun b1 b2 => .staAby (word b1 b2)⟩,
    ⟨0x9A#8, .imp, fun _ _ => .txs⟩,
    ⟨0x9D#8, .abx, fun b1 b2 => .staAbx (word b1 b2)⟩ ]

/-- Row Ax of the map of R74. -/
def opcodeRowsA : List OpcodeRow :=
  [ ⟨0xA0#8, .imm, fun b1 _ => .ldyImm b1⟩,
    ⟨0xA1#8, .izx, fun b1 _ => .ldaIzx b1⟩,
    ⟨0xA2#8, .imm, fun b1 _ => .ldxImm b1⟩,
    ⟨0xA4#8, .zp, fun b1 _ => .ldyZp b1⟩,
    ⟨0xA5#8, .zp, fun b1 _ => .ldaZp b1⟩,
    ⟨0xA6#8, .zp, fun b1 _ => .ldxZp b1⟩,
    ⟨0xA8#8, .imp, fun _ _ => .tay⟩,
    ⟨0xA9#8, .imm, fun b1 _ => .ldaImm b1⟩,
    ⟨0xAA#8, .imp, fun _ _ => .tax⟩,
    ⟨0xAC#8, .abs, fun b1 b2 => .ldyAbs (word b1 b2)⟩,
    ⟨0xAD#8, .abs, fun b1 b2 => .ldaAbs (word b1 b2)⟩,
    ⟨0xAE#8, .abs, fun b1 b2 => .ldxAbs (word b1 b2)⟩ ]

/-- Row Bx of the map of R74. -/
def opcodeRowsB : List OpcodeRow :=
  [ ⟨0xB0#8, .rel, fun b1 _ => .bcs b1⟩,
    ⟨0xB1#8, .izy, fun b1 _ => .ldaIzy b1⟩,
    ⟨0xB4#8, .zpx, fun b1 _ => .ldyZpx b1⟩,
    ⟨0xB5#8, .zpx, fun b1 _ => .ldaZpx b1⟩,
    ⟨0xB6#8, .zpy, fun b1 _ => .ldxZpy b1⟩,
    ⟨0xB8#8, .imp, fun _ _ => .clv⟩,
    ⟨0xB9#8, .aby, fun b1 b2 => .ldaAby (word b1 b2)⟩,
    ⟨0xBA#8, .imp, fun _ _ => .tsx⟩,
    ⟨0xBC#8, .abx, fun b1 b2 => .ldyAbx (word b1 b2)⟩,
    ⟨0xBD#8, .abx, fun b1 b2 => .ldaAbx (word b1 b2)⟩,
    ⟨0xBE#8, .aby, fun b1 b2 => .ldxAby (word b1 b2)⟩ ]

/-- Row Cx of the map of R74. -/
def opcodeRowsC : List OpcodeRow :=
  [ ⟨0xC0#8, .imm, fun b1 _ => .cpyImm b1⟩,
    ⟨0xC1#8, .izx, fun b1 _ => .cmpIzx b1⟩,
    ⟨0xC4#8, .zp, fun b1 _ => .cpyZp b1⟩,
    ⟨0xC5#8, .zp, fun b1 _ => .cmpZp b1⟩,
    ⟨0xC6#8, .zp, fun b1 _ => .decZp b1⟩,
    ⟨0xC8#8, .imp, fun _ _ => .iny⟩,
    ⟨0xC9#8, .imm, fun b1 _ => .cmpImm b1⟩,
    ⟨0xCA#8, .imp, fun _ _ => .dex⟩,
    ⟨0xCC#8, .abs, fun b1 b2 => .cpyAbs (word b1 b2)⟩,
    ⟨0xCD#8, .abs, fun b1 b2 => .cmpAbs (word b1 b2)⟩,
    ⟨0xCE#8, .abs, fun b1 b2 => .decAbs (word b1 b2)⟩ ]

/-- Row Dx of the map of R74. -/
def opcodeRowsD : List OpcodeRow :=
  [ ⟨0xD0#8, .rel, fun b1 _ => .bne b1⟩,
    ⟨0xD1#8, .izy, fun b1 _ => .cmpIzy b1⟩,
    ⟨0xD5#8, .zpx, fun b1 _ => .cmpZpx b1⟩,
    ⟨0xD6#8, .zpx, fun b1 _ => .decZpx b1⟩,
    ⟨0xD8#8, .imp, fun _ _ => .cld⟩,
    ⟨0xD9#8, .aby, fun b1 b2 => .cmpAby (word b1 b2)⟩,
    ⟨0xDD#8, .abx, fun b1 b2 => .cmpAbx (word b1 b2)⟩,
    ⟨0xDE#8, .abx, fun b1 b2 => .decAbx (word b1 b2)⟩ ]

/-- Row Ex of the map of R74. -/
def opcodeRowsE : List OpcodeRow :=
  [ ⟨0xE0#8, .imm, fun b1 _ => .cpxImm b1⟩,
    ⟨0xE1#8, .izx, fun b1 _ => .sbcIzx b1⟩,
    ⟨0xE4#8, .zp, fun b1 _ => .cpxZp b1⟩,
    ⟨0xE5#8, .zp, fun b1 _ => .sbcZp b1⟩,
    ⟨0xE6#8, .zp, fun b1 _ => .incZp b1⟩,
    ⟨0xE8#8, .imp, fun _ _ => .inx⟩,
    ⟨0xE9#8, .imm, fun b1 _ => .sbcImm b1⟩,
    ⟨0xEA#8, .imp, fun _ _ => .nop⟩,
    ⟨0xEC#8, .abs, fun b1 b2 => .cpxAbs (word b1 b2)⟩,
    ⟨0xED#8, .abs, fun b1 b2 => .sbcAbs (word b1 b2)⟩,
    ⟨0xEE#8, .abs, fun b1 b2 => .incAbs (word b1 b2)⟩ ]

/-- Row Fx of the map of R74. -/
def opcodeRowsF : List OpcodeRow :=
  [ ⟨0xF0#8, .rel, fun b1 _ => .beq b1⟩,
    ⟨0xF1#8, .izy, fun b1 _ => .sbcIzy b1⟩,
    ⟨0xF5#8, .zpx, fun b1 _ => .sbcZpx b1⟩,
    ⟨0xF6#8, .zpx, fun b1 _ => .incZpx b1⟩,
    ⟨0xF8#8, .imp, fun _ _ => .sed⟩,
    ⟨0xF9#8, .aby, fun b1 b2 => .sbcAby (word b1 b2)⟩,
    ⟨0xFD#8, .abx, fun b1 b2 => .sbcAbx (word b1 b2)⟩,
    ⟨0xFE#8, .abx, fun b1 b2 => .incAbx (word b1 b2)⟩ ]

/-- The 151 defined opcodes (R74). -/
def opcodeTable : List OpcodeRow :=
  opcodeRows0 ++ opcodeRows1 ++ opcodeRows2 ++ opcodeRows3 ++ opcodeRows4 ++ opcodeRows5 ++
  opcodeRows6 ++ opcodeRows7 ++ opcodeRows8 ++ opcodeRows9 ++ opcodeRowsA ++ opcodeRowsB ++
  opcodeRowsC ++ opcodeRowsD ++ opcodeRowsE ++ opcodeRowsF

/-- The row of an opcode byte, if it is one of the 151 (R75: total, and no byte has two). -/
def lookupOpcode (op : Byte) : Option OpcodeRow := opcodeTable.find? (fun row => row.opcode == op)

/-- Why bytes do not decode. -/
inductive DecodeError where
  /-- There is no opcode byte. -/
  | empty
  /-- The opcode byte is none of the 151 (R77). -/
  | unknownOpcode (op : Byte)
  /-- The bytes end before the operand bytes the opcode asks for (R70). -/
  | truncated (op : Byte)
  deriving DecidableEq, Repr

/-- The instruction a row makes of the bytes after its opcode, and the bytes it leaves. -/
def decodeOperands (row : OpcodeRow) (rest : List Byte) : Except DecodeError (Instr × List Byte) :=
  match row.mode.length, rest with
  | 1, rest => .ok (row.build 0#8 0#8, rest)
  | 2, b1 :: rest => .ok (row.build b1 0#8, rest)
  | 3, b1 :: b2 :: rest => .ok (row.build b1 b2, rest)
  | _, _ => .error (.truncated row.opcode)

/-- The instruction at the head of a byte string, with the bytes after it (R70, R75). -/
def decode : List Byte → Except DecodeError (Instr × List Byte)
  | [] => .error .empty
  | op :: rest =>
    match lookupOpcode op with
    | none => .error (.unknownOpcode op)
    | some row => decodeOperands row rest

/-- The three bytes, lowest address first, of an instruction whose bits are `w` as
spec/opcode_table.json numbers them: the opcode is bits 7..0, byte 1 bits 15..8, byte 2 bits 23..16;
every bit from `nbits` up is 0. -/
def tableBytes (nbits w : Nat) : List Byte :=
  let w := w % 2 ^ nbits
  [BitVec.ofNat 8 w, BitVec.ofNat 8 (w / 256), BitVec.ofNat 8 (w / 65536)]

/-- The instruction the decoder reads from a table word. -/
def decodeTableWord (nbits w : Nat) : Option Instr :=
  match decode (tableBytes nbits w) with
  | .ok (i, _) => some i
  | .error _ => none

/-- The bytes of an instruction, lowest address first (R73, R74): the opcode, then its operand byte, or
its operand word low byte first. -/
def encode : Instr → List Byte
  | .adcImm v => [0x69#8, v]
  | .adcZp z => [0x65#8, z]
  | .adcZpx z => [0x75#8, z]
  | .adcAbs w => [0x6D#8, lo w, hi w]
  | .adcAbx w => [0x7D#8, lo w, hi w]
  | .adcAby w => [0x79#8, lo w, hi w]
  | .adcIzx z => [0x61#8, z]
  | .adcIzy z => [0x71#8, z]
  | .sbcImm v => [0xE9#8, v]
  | .sbcZp z => [0xE5#8, z]
  | .sbcZpx z => [0xF5#8, z]
  | .sbcAbs w => [0xED#8, lo w, hi w]
  | .sbcAbx w => [0xFD#8, lo w, hi w]
  | .sbcAby w => [0xF9#8, lo w, hi w]
  | .sbcIzx z => [0xE1#8, z]
  | .sbcIzy z => [0xF1#8, z]
  | .andImm v => [0x29#8, v]
  | .andZp z => [0x25#8, z]
  | .andZpx z => [0x35#8, z]
  | .andAbs w => [0x2D#8, lo w, hi w]
  | .andAbx w => [0x3D#8, lo w, hi w]
  | .andAby w => [0x39#8, lo w, hi w]
  | .andIzx z => [0x21#8, z]
  | .andIzy z => [0x31#8, z]
  | .oraImm v => [0x09#8, v]
  | .oraZp z => [0x05#8, z]
  | .oraZpx z => [0x15#8, z]
  | .oraAbs w => [0x0D#8, lo w, hi w]
  | .oraAbx w => [0x1D#8, lo w, hi w]
  | .oraAby w => [0x19#8, lo w, hi w]
  | .oraIzx z => [0x01#8, z]
  | .oraIzy z => [0x11#8, z]
  | .eorImm v => [0x49#8, v]
  | .eorZp z => [0x45#8, z]
  | .eorZpx z => [0x55#8, z]
  | .eorAbs w => [0x4D#8, lo w, hi w]
  | .eorAbx w => [0x5D#8, lo w, hi w]
  | .eorAby w => [0x59#8, lo w, hi w]
  | .eorIzx z => [0x41#8, z]
  | .eorIzy z => [0x51#8, z]
  | .ldaImm v => [0xA9#8, v]
  | .ldaZp z => [0xA5#8, z]
  | .ldaZpx z => [0xB5#8, z]
  | .ldaAbs w => [0xAD#8, lo w, hi w]
  | .ldaAbx w => [0xBD#8, lo w, hi w]
  | .ldaAby w => [0xB9#8, lo w, hi w]
  | .ldaIzx z => [0xA1#8, z]
  | .ldaIzy z => [0xB1#8, z]
  | .ldxImm v => [0xA2#8, v]
  | .ldxZp z => [0xA6#8, z]
  | .ldxZpy z => [0xB6#8, z]
  | .ldxAbs w => [0xAE#8, lo w, hi w]
  | .ldxAby w => [0xBE#8, lo w, hi w]
  | .ldyImm v => [0xA0#8, v]
  | .ldyZp z => [0xA4#8, z]
  | .ldyZpx z => [0xB4#8, z]
  | .ldyAbs w => [0xAC#8, lo w, hi w]
  | .ldyAbx w => [0xBC#8, lo w, hi w]
  | .staZp z => [0x85#8, z]
  | .staZpx z => [0x95#8, z]
  | .staAbs w => [0x8D#8, lo w, hi w]
  | .staAbx w => [0x9D#8, lo w, hi w]
  | .staAby w => [0x99#8, lo w, hi w]
  | .staIzx z => [0x81#8, z]
  | .staIzy z => [0x91#8, z]
  | .stxZp z => [0x86#8, z]
  | .stxZpy z => [0x96#8, z]
  | .stxAbs w => [0x8E#8, lo w, hi w]
  | .styZp z => [0x84#8, z]
  | .styZpx z => [0x94#8, z]
  | .styAbs w => [0x8C#8, lo w, hi w]
  | .aslAcc => [0x0A#8]
  | .aslZp z => [0x06#8, z]
  | .aslZpx z => [0x16#8, z]
  | .aslAbs w => [0x0E#8, lo w, hi w]
  | .aslAbx w => [0x1E#8, lo w, hi w]
  | .lsrAcc => [0x4A#8]
  | .lsrZp z => [0x46#8, z]
  | .lsrZpx z => [0x56#8, z]
  | .lsrAbs w => [0x4E#8, lo w, hi w]
  | .lsrAbx w => [0x5E#8, lo w, hi w]
  | .rolAcc => [0x2A#8]
  | .rolZp z => [0x26#8, z]
  | .rolZpx z => [0x36#8, z]
  | .rolAbs w => [0x2E#8, lo w, hi w]
  | .rolAbx w => [0x3E#8, lo w, hi w]
  | .rorAcc => [0x6A#8]
  | .rorZp z => [0x66#8, z]
  | .rorZpx z => [0x76#8, z]
  | .rorAbs w => [0x6E#8, lo w, hi w]
  | .rorAbx w => [0x7E#8, lo w, hi w]
  | .cmpImm v => [0xC9#8, v]
  | .cmpZp z => [0xC5#8, z]
  | .cmpZpx z => [0xD5#8, z]
  | .cmpAbs w => [0xCD#8, lo w, hi w]
  | .cmpAbx w => [0xDD#8, lo w, hi w]
  | .cmpAby w => [0xD9#8, lo w, hi w]
  | .cmpIzx z => [0xC1#8, z]
  | .cmpIzy z => [0xD1#8, z]
  | .cpxImm v => [0xE0#8, v]
  | .cpxZp z => [0xE4#8, z]
  | .cpxAbs w => [0xEC#8, lo w, hi w]
  | .cpyImm v => [0xC0#8, v]
  | .cpyZp z => [0xC4#8, z]
  | .cpyAbs w => [0xCC#8, lo w, hi w]
  | .incZp z => [0xE6#8, z]
  | .incZpx z => [0xF6#8, z]
  | .incAbs w => [0xEE#8, lo w, hi w]
  | .incAbx w => [0xFE#8, lo w, hi w]
  | .decZp z => [0xC6#8, z]
  | .decZpx z => [0xD6#8, z]
  | .decAbs w => [0xCE#8, lo w, hi w]
  | .decAbx w => [0xDE#8, lo w, hi w]
  | .inx => [0xE8#8]
  | .iny => [0xC8#8]
  | .dex => [0xCA#8]
  | .dey => [0x88#8]
  | .bcc off => [0x90#8, off]
  | .bcs off => [0xB0#8, off]
  | .beq off => [0xF0#8, off]
  | .bne off => [0xD0#8, off]
  | .bpl off => [0x10#8, off]
  | .bmi off => [0x30#8, off]
  | .bvc off => [0x50#8, off]
  | .bvs off => [0x70#8, off]
  | .jmpAbs w => [0x4C#8, lo w, hi w]
  | .jmpInd p => [0x6C#8, lo p, hi p]
  | .jsr w => [0x20#8, lo w, hi w]
  | .rts => [0x60#8]
  | .rti => [0x40#8]
  | .pha => [0x48#8]
  | .pla => [0x68#8]
  | .php => [0x08#8]
  | .plp => [0x28#8]
  | .clc => [0x18#8]
  | .cld => [0xD8#8]
  | .cli => [0x58#8]
  | .clv => [0xB8#8]
  | .sec => [0x38#8]
  | .sed => [0xF8#8]
  | .sei => [0x78#8]
  | .brk => [0x00#8]
  | .tax => [0xAA#8]
  | .tay => [0xA8#8]
  | .tsx => [0xBA#8]
  | .txa => [0x8A#8]
  | .txs => [0x9A#8]
  | .tya => [0x98#8]
  | .bitZp z => [0x24#8, z]
  | .bitAbs w => [0x2C#8, lo w, hi w]
  | .nop => [0xEA#8]

end Sys2Proof
end

