-- ==== Sys2Proof/Machine/Fetch.lean ====
section
/-! DEFINITION. Instruction fetch (R70 to R72, R83): the bytes the decoder sees, and where an instruction's
bytes lie. A fetch is an ordinary read of memory (R65). The decoder is shown the longest format's three
bytes; those after the instruction change nothing (R52: a read has no side effect), and the list of the
accesses a step makes, Machine/Accesses.lean, has only the bytes of the instruction (R67; log 6). -/

namespace Sys2Proof.Machine

/-- The bytes at PC, PC + 1 and PC + 2, each `mod 65536` (R83). -/
def fetchBytes (s : State) : List Byte := [s.read s.pc, s.read (s.pc + 1#16), s.read (s.pc + 2#16)]

/-- The instruction at PC, or the reason there is none. -/
def fetchInstr (s : State) : Except DecodeError Instr :=
  match decode (fetchBytes s) with
  | .ok (i, _) => .ok i
  | .error e => .error e

/-- The state with the bytes stored at an address and the ones after it, `mod 65536` (R83). -/
def placeBytes : List Byte → Word → State → State
  | [], _, s => s
  | v :: bytes, addr, s => placeBytes bytes (addr + 1#16) (s.write addr v)

end Sys2Proof.Machine
end

