-- ==== Sys2Proof/Machine/Step.lean ====
section
/-! DEFINITION. One step of the block (R7, R70): fetch, dispatch, execute, or report the unknown opcode.
It only calls what the other files define. -/

namespace Sys2Proof.Machine

/-- `Step()` (R7, R70, R201). -/
def step (s : State) : Host.Outcome State Fault Refusal :=
  match fetchInstr s with
  | .ok i => exec i s
  | .error _ => raiseUnknownOpcode (s.read s.pc) s

/-- The state with a table word stored at PC, where the next step fetches. -/
def State.withFetchWord (s : State) (nbits w : Nat) : State := placeBytes (tableBytes nbits w) s.pc s

end Sys2Proof.Machine
end

