-- ==== Sys2Proof/Machine/Accesses.lean ====
section
/-! DEFINITION. The memory accesses of one step, in order (20_memory.md R64), every one a single byte
(R56, R60), with no access beyond them (R67). This is the block's traffic on its memory port (R8). The
meanings of the instructions do not read it; that it agrees with them is a statement for the provers. -/

namespace Sys2Proof.Machine

/-- One access of the memory port (R8), with the byte read or written. -/
inductive Access where
  | read (addr : Word) (v : Byte)
  | write (addr : Word) (v : Byte)
  deriving DecidableEq, Repr

/-- The reads at the addresses given, in order, of a state's memory. -/
def readsAt (s : State) (addrs : List Word) : List Access := addrs.map (fun a => .read a (s.read a))

/-- The reads of an instruction's own bytes: opcode first, operand bytes in rising order (R64, R83). -/
def instrReads (length : Nat) (s : State) : List Access :=
  readsAt s ((List.range length).map (fun k => s.pc + BitVec.ofNat 16 k))

/-- The instruction's bytes, then its pointer bytes (R64). -/
def operandReads (m : Resolver) (s : State) : List Access :=
  instrReads m.length s ++ readsAt s (m.pointer s)

/-- A read-type instruction: the last access reads the data at the effective address. -/
def readAccesses (m : Resolver) (s : State) : List Access := operandReads m s ++ readsAt s [m.ea s]

/-- A write-type instruction: the last access writes the register at the effective address. -/
def storeAccesses (v : Byte) (m : Resolver) (s : State) : List Access :=
  operandReads m s ++ [.write (m.ea s) v]

/-- A read-modify-write instruction: one read and then one write at the effective address (R67). -/
def modifyAccesses (f : Byte → State → Byte × State) (m : Resolver) (s : State) : List Access :=
  readAccesses m s ++ [.write (m.ea s) (f (s.read (m.ea s)) s).1]

/-- The writes of two pushes, high byte first (R57). -/
def pushWordAccesses (w : Word) (sp : Byte) : List Access :=
  [.write (stackAddr sp) (hi w), .write (stackAddr (sp - 1#8)) (lo w)]

/-- The reads of the next `k` stack locations above S (R27). -/
def popAccesses (k : Nat) (s : State) : List Access :=
  readsAt s ((List.range k).map (fun j => stackAddr (s.sp + BitVec.ofNat 8 (j + 1))))

/-- BRK: the three pushes, then the vector, read from memory as the pushes left it (R64). -/
def trapAccesses (cfg : Config) (s : State) : List Access :=
  let status := if cfg.brkPushesBSet then s.packP ||| 0x10#8 else s.packP
  let t := takeTrap cfg (s.advance 1)
  pushWordAccesses (s.pc + 1#16) s.sp ++ [.write (stackAddr (s.sp - 2#8)) status]
    ++ readsAt t [0xFFFE#16, 0xFFFF#16]

/-- The accesses of an instruction run from a state whose PC is its opcode's address (R64). -/
def accesses (i : Instr) (s : State) : List Access :=
  match i with
  | .aslAcc | .lsrAcc | .rolAcc | .rorAcc | .inx | .iny | .dex | .dey | .clc | .cld | .cli
  | .clv | .sec | .sed | .sei | .tax | .tay | .tsx | .txa | .txs | .tya | .nop =>
    instrReads 1 s
  | .adcImm _ | .sbcImm _ | .andImm _ | .oraImm _ | .eorImm _ | .ldaImm _ | .ldxImm _
  | .ldyImm _ | .cmpImm _ | .cpxImm _ | .cpyImm _ | .bcc _ | .bcs _ | .beq _ | .bne _ | .bpl _
  | .bmi _ | .bvc _ | .bvs _ =>
    instrReads 2 s
  | .adcZp z | .sbcZp z | .andZp z | .oraZp z | .eorZp z | .ldaZp z | .ldxZp z | .ldyZp z
  | .cmpZp z | .cpxZp z | .cpyZp z | .bitZp z =>
    readAccesses (zp z) s
  | .adcZpx z | .sbcZpx z | .andZpx z | .oraZpx z | .eorZpx z | .ldaZpx z | .ldyZpx z
  | .cmpZpx z =>
    readAccesses (zpx z) s
  | .ldxZpy z =>
    readAccesses (zpy z) s
  | .adcAbs w | .sbcAbs w | .andAbs w | .oraAbs w | .eorAbs w | .ldaAbs w | .ldxAbs w
  | .ldyAbs w | .cmpAbs w | .cpxAbs w | .cpyAbs w | .bitAbs w =>
    readAccesses (absolute w) s
  | .adcAbx w | .sbcAbx w | .andAbx w | .oraAbx w | .eorAbx w | .ldaAbx w | .ldyAbx w
  | .cmpAbx w =>
    readAccesses (abx w) s
  | .adcAby w | .sbcAby w | .andAby w | .oraAby w | .eorAby w | .ldaAby w | .ldxAby w
  | .cmpAby w =>
    readAccesses (aby w) s
  | .adcIzx z | .sbcIzx z | .andIzx z | .oraIzx z | .eorIzx z | .ldaIzx z | .cmpIzx z =>
    readAccesses (izx z) s
  | .adcIzy z | .sbcIzy z | .andIzy z | .oraIzy z | .eorIzy z | .ldaIzy z | .cmpIzy z =>
    readAccesses (izy z) s
  | .staZp z =>
    storeAccesses s.a (zp z) s
  | .staZpx z =>
    storeAccesses s.a (zpx z) s
  | .staAbs w =>
    storeAccesses s.a (absolute w) s
  | .staAbx w =>
    storeAccesses s.a (abx w) s
  | .staAby w =>
    storeAccesses s.a (aby w) s
  | .staIzx z =>
    storeAccesses s.a (izx z) s
  | .staIzy z =>
    storeAccesses s.a (izy z) s
  | .stxZp z =>
    storeAccesses s.x (zp z) s
  | .stxZpy z =>
    storeAccesses s.x (zpy z) s
  | .stxAbs w =>
    storeAccesses s.x (absolute w) s
  | .styZp z =>
    storeAccesses s.y (zp z) s
  | .styZpx z =>
    storeAccesses s.y (zpx z) s
  | .styAbs w =>
    storeAccesses s.y (absolute w) s
  | .aslZp z =>
    modifyAccesses shiftLeft (zp z) s
  | .aslZpx z =>
    modifyAccesses shiftLeft (zpx z) s
  | .aslAbs w =>
    modifyAccesses shiftLeft (absolute w) s
  | .aslAbx w =>
    modifyAccesses shiftLeft (abx w) s
  | .lsrZp z =>
    modifyAccesses shiftRight (zp z) s
  | .lsrZpx z =>
    modifyAccesses shiftRight (zpx z) s
  | .lsrAbs w =>
    modifyAccesses shiftRight (absolute w) s
  | .lsrAbx w =>
    modifyAccesses shiftRight (abx w) s
  | .rolZp z =>
    modifyAccesses rotateLeft (zp z) s
  | .rolZpx z =>
    modifyAccesses rotateLeft (zpx z) s
  | .rolAbs w =>
    modifyAccesses rotateLeft (absolute w) s
  | .rolAbx w =>
    modifyAccesses rotateLeft (abx w) s
  | .rorZp z =>
    modifyAccesses rotateRight (zp z) s
  | .rorZpx z =>
    modifyAccesses rotateRight (zpx z) s
  | .rorAbs w =>
    modifyAccesses rotateRight (absolute w) s
  | .rorAbx w =>
    modifyAccesses rotateRight (abx w) s
  | .incZp z =>
    modifyAccesses increment (zp z) s
  | .incZpx z =>
    modifyAccesses increment (zpx z) s
  | .incAbs w =>
    modifyAccesses increment (absolute w) s
  | .incAbx w =>
    modifyAccesses increment (abx w) s
  | .decZp z =>
    modifyAccesses decrement (zp z) s
  | .decZpx z =>
    modifyAccesses decrement (zpx z) s
  | .decAbs w =>
    modifyAccesses decrement (absolute w) s
  | .decAbx w =>
    modifyAccesses decrement (abx w) s
  | .jmpAbs _ => instrReads 3 s
  | .jmpInd p => instrReads 3 s ++ readsAt s [p, indirectHighAddr p]
  | .jsr _ => instrReads 3 s ++ pushWordAccesses (s.pc + 2#16) s.sp
  | .rts => instrReads 1 s ++ popAccesses 2 s
  | .rti => instrReads 1 s ++ popAccesses 3 s
  | .pha => instrReads 1 s ++ [.write (stackAddr s.sp) s.a]
  | .php => instrReads 1 s ++ [.write (stackAddr s.sp) s.packP]
  | .pla | .plp => instrReads 1 s ++ popAccesses 1 s
  | .brk => instrReads 1 s ++ trapAccesses config s

/-- The accesses of the next step: the instruction's, or the opcode read alone when the byte is no opcode
(R64, R201). -/
def stepAccesses (s : State) : List Access :=
  match fetchInstr s with
  | .ok i => accesses i s
  | .error _ => instrReads 1 s

/-- The accesses of `Reset()` (R64): the two bytes of the reset vector. -/
def resetAccesses (s : State) : List Access := readsAt s [0xFFFC#16, 0xFFFD#16]

/-- Memory after a list of accesses made one at a time, in order (R62), or none if a read's byte is not
the one memory holds at that moment. -/
def replay : List Access → Memory → Option Memory
  | [], m => some m
  | .read a v :: rest, m => if m.read a = v then replay rest m else none
  | .write a v :: rest, m => replay rest (m.write a v)

end Sys2Proof.Machine
end

