-- ==== Sys2Proof/Machine/Driver.lean ====
section
/-! DEFINITION. The host's side of `Step()` as far as the spec describes it: the observation port (R8,
R214), the ways a run ends (R229) and the unknown-opcode policy (R216). The driver is outside the block;
no meaning of an instruction depends on this file. -/

namespace Sys2Proof.Machine

/-- What the host reads between steps (R8, R214). -/
structure Observation where
  pc : Word
  a : Byte
  x : Byte
  y : Byte
  sp : Byte
  n : Bool
  v : Bool
  b : Bool
  d : Bool
  i : Bool
  z : Bool
  c : Bool
  deriving DecidableEq, Repr

/-- The observation port: the register file and the flags. Observing changes no state. -/
def observe (s : State) : Observation where
  pc := s.pc
  a := s.a
  x := s.x
  y := s.y
  sp := s.sp
  n := s.n
  v := s.v
  b := s.b
  d := s.d
  i := s.i
  z := s.z
  c := s.c

/-- When a driver stops beside its step count (R229). -/
inductive StopCondition where
  /-- Only the step count ends the run. -/
  | stepCount
  /-- The run ends before the step whose opcode fetch would be at the address. -/
  | atAddress (addr : Word)
  /-- The run ends when a step leaves PC equal to the address of the opcode it executed. -/
  | selfLoop
  deriving DecidableEq, Repr

/-- How a run ends. -/
inductive RunEnd where
  /-- The driver stopped calling `Step()` in this state. -/
  | stopped (s : State)
  /-- A step returned `UnknownOpcode` under the policy `fault`, or the model refused; no final state. -/
  | failed (r : Result)
  deriving Repr

/-- A run: the unknown-opcode reports in order (R216: kept in the trace), and how it ended. -/
structure Run where
  reports : List (Byte × Word)
  ending : RunEnd
  deriving Repr

/-- The driver's loop (R229), for at most `k` steps: the count N of condition (a), and a bound on the run
under the other two conditions.
DESIGN CHOICE (log 15, unsafe): when the bound runs out first under a stop address or a self-loop, the run
ends as `.stopped` with the state reached, the ending a met condition has; the spec says only that a model's
executor runs under fuel (D22). -/
def drive (policy : UnknownOpcodePolicy) (stop : StopCondition) : Nat → State → Run
  | 0, s => ⟨[], .stopped s⟩
  | k + 1, s =>
    if stop = .atAddress s.pc then ⟨[], .stopped s⟩ else
    match step s with
    | .next t => if stop = .selfLoop ∧ t.pc = s.pc then ⟨[], .stopped t⟩ else drive policy stop k t
    | .refused r => ⟨[], .failed (.refused r)⟩
    | .fault (.unknownOpcode op addr after) =>
      match policy with
      | .fault => ⟨[(op, addr)], .failed (.fault (.unknownOpcode op addr after))⟩
      | .skip => let run := drive policy stop k after; ⟨(op, addr) :: run.reports, run.ending⟩

/-- The driver's loop under this machine's policy (R216, D18; log 5). -/
def driveHere (stop : StopCondition) (k : Nat) (s : State) : Run := drive config.unknownOpcode stop k s

end Sys2Proof.Machine
end

