-- ==== Sys2Proof/Machine/Launch.lean ====
section
/-! DEFINITION. How a run begins (70_reset_and_hazards.md R221, R225 to R228; 20_memory.md R53): the image
is loaded into a zeroed store, the core is constructed with the power-on values, and `Reset()` is made
once. -/

namespace Sys2Proof.Machine

/-- Why a load fails (R227). `ImageUnreadable` is the file system's and is outside the block (R4). -/
inductive LoadError where
  /-- The image has more than 65536 bytes. -/
  | imageTooLarge
  deriving DecidableEq, Repr

/-- The canonical store that holds the bytes from address `k` upward and 0x00 elsewhere. -/
def memoryFrom : Nat → List Byte → Memory
  | _, [] => []
  | k, v :: image => if v = 0#8 then memoryFrom (k + 1) image else (k, v) :: memoryFrom (k + 1) image

/-- The image load (R53, R226): byte i at address i, at most 65536 bytes. -/
def loadImage (image : List Byte) : Except LoadError Memory :=
  if image.length ≤ 65536 then .ok (memoryFrom 0 image) else .error .imageTooLarge

/-- The core at construction, before its first `Reset()` (R221): the power-on values where the spec names
them, and 0 in the registers the first `Reset()` overwrites, which nothing can observe (R43). -/
def powerOn (p : PowerOn) (m : Memory) : State where
  pc := 0x0000#16
  a := p.a
  x := p.x
  y := p.y
  sp := 0x00#8
  n := p.n
  v := p.v
  b := false
  d := false
  i := false
  z := p.z
  c := p.c
  mem := m

/-- The first state anything can observe (R221): load, construct, `Reset()`. A failed load starts no run
(R227). -/
def launch (p : PowerOn) (image : List Byte) : Except LoadError State :=
  match loadImage image with
  | .ok m => .ok (resetSequence (powerOn p m))
  | .error e => .error e

end Sys2Proof.Machine
end

