-- ==== Sys2Proof/Safety.lean ====
section
/-! DEFINITION. What a safe run is, in the terms claims use: a run that meets no unknown opcode (R201,
R216). Nothing else stops this machine (R203, R215). -/

namespace Sys2Proof

open Machine

/-- The byte at PC is one of the 151 opcodes, so the next step completes (R75, R203). -/
def Safe (s : State) : Bool := (lookupOpcode (s.read s.pc)).isSome

/-- The next `k` steps all complete. -/
def runsSafely : Nat → State → Bool
  | 0, _ => true
  | k + 1, s =>
    match step s with
    | .next t => runsSafely k t
    | .fault _ => false
    | .refused _ => false

end Sys2Proof
end

