-- ==== Sys2Proof/Certificates/Slice0/Obligations.lean ====
section
/-! DEFINITION. The statements for the provers. Each says what a numbered rule of spec/ says an
instruction or the machine does. `Claims` holds the words they share: the operand forms of each mnemonic
with their opcode bytes (30_encoding.md R74), results as numbers, and what a store leaves alone. A result
is written as the whole next state, so that it says the frame too. -/

namespace Sys2Proof.Claims

open Machine

/-- Bit 7 of the byte whose number is `r` (R30). -/
def neg (r : Nat) : Bool := decide (r ≥ 128)

/-- The byte whose number is `r` is zero (R32). -/
def zer (r : Nat) : Bool := decide (r = 0)

/-- The integer is outside the signed byte range (R111). -/
def outsideSigned (x : Int) : Bool := decide (x < -128 ∨ 127 < x)

/-- The packed status byte as a number (R36). -/
def packed (s : State) : Nat :=
  s.c.toNat + 2 * s.z.toNat + 4 * s.i.toNat + 8 * s.d.toNat + 16 * s.b.toNat + 32 + 64 * s.v.toNat +
    128 * s.n.toNat

/-- The number of the little-endian word whose bytes are at the two addresses (R57). -/
def wordAt (s : State) (low high : Word) : Nat := (s.read low).toNat + 256 * (s.read high).toNat

/-- After `t` the addresses listed hold the bytes listed, and every other byte of memory is as it was
in `s`. -/
def OnlyStores (s t : State) (stored : List (Word × Byte)) : Prop :=
  (∀ p ∈ stored, t.read p.1 = p.2) ∧ ∀ addr, (∀ p ∈ stored, addr ≠ p.1) → t.read addr = s.read addr

/-- One row of the opcode table that has an operand: its opcode byte, the constructor, and for a memory
mode the resolver the meaning uses. -/
inductive Form where
  | imm (op : Byte) (make : Byte → Instr)
  | byte (op : Byte) (make : Byte → Instr) (mode : Byte → Resolver)
  | wide (op : Byte) (make : Word → Instr) (mode : Word → Resolver)

/-- The opcode byte of the row. -/
def Form.opcode : Form → Byte
  | .imm op _ | .byte op _ _ | .wide op _ _ => op

/-- For every operand of a read-type form: the encoding is the opcode and the operand bytes, and `P`
holds of the instruction, its length and the operand's value in a state (R94, R105). -/
def Form.Reads (P : Instr → Word → (State → Byte) → Prop) : Form → Prop
  | .imm op make => ∀ v, encode (make v) = [op, v] ∧ P (make v) 2#16 (fun _ => v)
  | .byte op make mode =>
    ∀ z, encode (make z) = [op, z] ∧ P (make z) 2#16 (fun s => s.read ((mode z).ea (s.advance 2)))
  | .wide op make mode =>
    ∀ w, encode (make w) = [op, lo w, hi w] ∧ P (make w) 3#16 (fun s => s.read ((mode w).ea (s.advance 3)))

/-- For every operand of a form in a memory mode: the encoding, and `P` of the instruction, its length and
the effective address in a state, computed as the meaning computes it. An immediate has none. -/
def Form.At (P : Instr → Word → (State → Word) → Prop) : Form → Prop
  | .imm _ _ => False
  | .byte op make mode => ∀ z, encode (make z) = [op, z] ∧ P (make z) 2#16 (fun s => (mode z).ea (s.advance 2))
  | .wide op make mode =>
    ∀ w, encode (make w) = [op, lo w, hi w] ∧ P (make w) 3#16 (fun s => (mode w).ea (s.advance 3))

/-! The operand forms of each mnemonic (R74). -/

def adcForms : List Form :=
  [.imm 0x69 .adcImm, .byte 0x65 .adcZp zp, .byte 0x75 .adcZpx zpx, .wide 0x6D .adcAbs absolute,
   .wide 0x7D .adcAbx abx, .wide 0x79 .adcAby aby, .byte 0x61 .adcIzx izx, .byte 0x71 .adcIzy izy]

def sbcForms : List Form :=
  [.imm 0xE9 .sbcImm, .byte 0xE5 .sbcZp zp, .byte 0xF5 .sbcZpx zpx, .wide 0xED .sbcAbs absolute,
   .wide 0xFD .sbcAbx abx, .wide 0xF9 .sbcAby aby, .byte 0xE1 .sbcIzx izx, .byte 0xF1 .sbcIzy izy]

def andForms : List Form :=
  [.imm 0x29 .andImm, .byte 0x25 .andZp zp, .byte 0x35 .andZpx zpx, .wide 0x2D .andAbs absolute,
   .wide 0x3D .andAbx abx, .wide 0x39 .andAby aby, .byte 0x21 .andIzx izx, .byte 0x31 .andIzy izy]

def oraForms : List Form :=
  [.imm 0x09 .oraImm, .byte 0x05 .oraZp zp, .byte 0x15 .oraZpx zpx, .wide 0x0D .oraAbs absolute,
   .wide 0x1D .oraAbx abx, .wide 0x19 .oraAby aby, .byte 0x01 .oraIzx izx, .byte 0x11 .oraIzy izy]

def eorForms : List Form :=
  [.imm 0x49 .eorImm, .byte 0x45 .eorZp zp, .byte 0x55 .eorZpx zpx, .wide 0x4D .eorAbs absolute,
   .wide 0x5D .eorAbx abx, .wide 0x59 .eorAby aby, .byte 0x41 .eorIzx izx, .byte 0x51 .eorIzy izy]

def ldaForms : List Form :=
  [.imm 0xA9 .ldaImm, .byte 0xA5 .ldaZp zp, .byte 0xB5 .ldaZpx zpx, .wide 0xAD .ldaAbs absolute,
   .wide 0xBD .ldaAbx abx, .wide 0xB9 .ldaAby aby, .byte 0xA1 .ldaIzx izx, .byte 0xB1 .ldaIzy izy]

def ldxForms : List Form :=
  [.imm 0xA2 .ldxImm, .byte 0xA6 .ldxZp zp, .byte 0xB6 .ldxZpy zpy, .wide 0xAE .ldxAbs absolute,
   .wide 0xBE .ldxAby aby]

def ldyForms : List Form :=
  [.imm 0xA0 .ldyImm, .byte 0xA4 .ldyZp zp, .byte 0xB4 .ldyZpx zpx, .wide 0xAC .ldyAbs absolute,
   .wide 0xBC .ldyAbx abx]

def staForms : List Form :=
  [.byte 0x85 .staZp zp, .byte 0x95 .staZpx zpx, .wide 0x8D .staAbs absolute, .wide 0x9D .staAbx abx,
   .wide 0x99 .staAby aby, .byte 0x81 .staIzx izx, .byte 0x91 .staIzy izy]

def stxForms : List Form :=
  [.byte 0x86 .stxZp zp, .byte 0x96 .stxZpy zpy, .wide 0x8E .stxAbs absolute]

def styForms : List Form :=
  [.byte 0x84 .styZp zp, .byte 0x94 .styZpx zpx, .wide 0x8C .styAbs absolute]

def aslForms : List Form :=
  [.byte 0x06 .aslZp zp, .byte 0x16 .aslZpx zpx, .wide 0x0E .aslAbs absolute, .wide 0x1E .aslAbx abx]

def lsrForms : List Form :=
  [.byte 0x46 .lsrZp zp, .byte 0x56 .lsrZpx zpx, .wide 0x4E .lsrAbs absolute, .wide 0x5E .lsrAbx abx]

def rolForms : List Form :=
  [.byte 0x26 .rolZp zp, .byte 0x36 .rolZpx zpx, .wide 0x2E .rolAbs absolute, .wide 0x3E .rolAbx abx]

def rorForms : List Form :=
  [.byte 0x66 .rorZp zp, .byte 0x76 .rorZpx zpx, .wide 0x6E .rorAbs absolute, .wide 0x7E .rorAbx abx]

def cmpForms : List Form :=
  [.imm 0xC9 .cmpImm, .byte 0xC5 .cmpZp zp, .byte 0xD5 .cmpZpx zpx, .wide 0xCD .cmpAbs absolute,
   .wide 0xDD .cmpAbx abx, .wide 0xD9 .cmpAby aby, .byte 0xC1 .cmpIzx izx, .byte 0xD1 .cmpIzy izy]

def cpxForms : List Form :=
  [.imm 0xE0 .cpxImm, .byte 0xE4 .cpxZp zp, .wide 0xEC .cpxAbs absolute]

def cpyForms : List Form :=
  [.imm 0xC0 .cpyImm, .byte 0xC4 .cpyZp zp, .wide 0xCC .cpyAbs absolute]

def incForms : List Form :=
  [.byte 0xE6 .incZp zp, .byte 0xF6 .incZpx zpx, .wide 0xEE .incAbs absolute, .wide 0xFE .incAbx abx]

def decForms : List Form :=
  [.byte 0xC6 .decZp zp, .byte 0xD6 .decZpx zpx, .wide 0xCE .decAbs absolute, .wide 0xDE .decAbx abx]

def bitForms : List Form :=
  [.byte 0x24 .bitZp zp, .wide 0x2C .bitAbs absolute]

/-- A read-type instruction ends in the state `f operand s` with PC past the instruction. -/
def ReadsTo (forms : List Form) (f : Byte → State → State) : Prop :=
  ∀ form ∈ forms, form.Reads fun i len v => ∀ s : State,
    exec i s = .next { f (v s) s with pc := s.pc + len }

/-- A store puts the register at the effective address and changes nothing else but PC. -/
def StoresRegister (forms : List Form) (register : State → Byte) : Prop :=
  ∀ form ∈ forms, form.At fun i len ea => ∀ s : State, ∃ t,
    exec i s = .next t ∧ t = { s with pc := s.pc + len, mem := t.mem } ∧
    OnlyStores s t [(ea s, register s)]

/-- A shift or rotate, in mode ACC and in every memory mode: the result and the carry as functions of the
operand's number and the old carry. -/
def ShiftsTo (acc : Instr) (accOp : Byte) (forms : List Form) (result : Nat → Nat → Nat)
    (carry : Nat → Bool) : Prop :=
  encode acc = [accOp] ∧
  (∀ s : State, exec acc s = .next
    { s with
      pc := s.pc + 1#16, a := BitVec.ofNat 8 (result s.a.toNat s.c.toNat), c := carry s.a.toNat
      n := neg (result s.a.toNat s.c.toNat), z := zer (result s.a.toNat s.c.toNat) }) ∧
  ∀ form ∈ forms, form.At fun i len ea => ∀ s : State,
    let v := (s.read (ea s)).toNat
    let r := result v s.c.toNat
    ∃ t, exec i s = .next t ∧
      t = { s with pc := s.pc + len, c := carry v, n := neg r, z := zer r, mem := t.mem } ∧
      OnlyStores s t [(ea s, BitVec.ofNat 8 r)]

/-- An increment or decrement of memory: the result as a function of the operand's number. -/
def StepsMemory (forms : List Form) (result : Nat → Nat) : Prop :=
  ∀ form ∈ forms, form.At fun i len ea => ∀ s : State,
    let r := result (s.read (ea s)).toNat
    ∃ t, exec i s = .next t ∧
      t = { s with pc := s.pc + len, n := neg r, z := zer r, mem := t.mem } ∧
      OnlyStores s t [(ea s, BitVec.ofNat 8 r)]

/-- A compare of a register with the operand: three flags, and nothing else but PC. -/
def Compares (forms : List Form) (register : State → Byte) : Prop :=
  ∀ form ∈ forms, form.Reads fun i len v => ∀ s : State,
    exec i s = .next
      { s with
        pc := s.pc + len, z := decide (register s = v s), c := decide ((register s).toNat ≥ (v s).toNat)
        n := neg (((register s).toNat + 256 - (v s).toNat) % 256) }

/-- A one-byte instruction ends in the state `f s` with PC one past the opcode. -/
def OneByte (op : Byte) (i : Instr) (f : State → State) : Prop :=
  encode i = [op] ∧ ∀ s : State, exec i s = .next { f s with pc := s.pc + 1#16 }

/-- A branch goes to the opcode address plus 2 plus the signed displacement when its condition holds, and
to the opcode address plus 2 when it does not; it changes nothing but PC. -/
def Branches (op : Byte) (make : Byte → Instr) (cond : State → Bool) : Prop :=
  ∀ off, encode (make off) = [op, off] ∧ ∀ s : State,
    exec (make off) s = .next
      { s with pc := if cond s then BitVec.ofInt 16 ((s.pc.toNat : Int) + 2 + off.toInt) else s.pc + 2#16 }

/-- A register copied, or computed, into A, X or Y, with N and Z from it. -/
def intoA (r : Byte) (s : State) : State := { s with a := r, n := neg r.toNat, z := zer r.toNat }

def intoX (r : Byte) (s : State) : State := { s with x := r, n := neg r.toNat, z := zer r.toNat }

def intoY (r : Byte) (s : State) : State := { s with y := r, n := neg r.toNat, z := zer r.toNat }

/-- The instructions run one after the other, each from the state the one before left. -/
def runAll : List Instr → State → Option State
  | [], s => some s
  | i :: is, s =>
    match exec i s with
    | .next t => runAll is t
    | .fault _ => none
    | .refused _ => none

/-- The opcode bytes of the instructions whose row of R39 leaves N and Z both unchanged: the stores, TXS,
NOP, BRK, PHA, PHP, JSR, RTS, JMP, the branches and the flag controls. -/
def keepsNZ : List Byte :=
  (staForms ++ stxForms ++ styForms).map Form.opcode ++
    [0x9A, 0xEA, 0x00, 0x48, 0x08, 0x20, 0x60, 0x4C, 0x6C, 0x90, 0xB0, 0xF0, 0xD0, 0x10, 0x30, 0x50, 0x70,
     0x18, 0xD8, 0x58, 0xB8, 0x38, 0xF8, 0x78]

/-- The instruction's opcode byte is in the list. -/
def opcodeIn (i : Instr) (ops : List Byte) : Prop := (encode i).head? ∈ ops.map some

end Sys2Proof.Claims

open Sys2Proof Sys2Proof.Machine Sys2Proof.Claims

/-- The source's five bytes A9 05 69 03 00 decode to LDA #$05, ADC #$03 and BRK in turn, which fixes the
three opcode bytes and the two lengths R76 names, and no other byte is consumed; one word of each
further family, written from R74 and R81, decodes to its instruction. (R74, R76, R81) -/
def Obligations.SpecWordsDecode : Prop :=
  decode [0xA9, 0x05, 0x69, 0x03, 0x00] = .ok (.ldaImm 0x05, [0x69, 0x03, 0x00]) ∧
  decode [0x69, 0x03, 0x00] = .ok (.adcImm 0x03, [0x00]) ∧
  decode [0x00] = .ok (.brk, []) ∧
  decode [0x99, 0x34, 0x12] = .ok (.staAby 0x1234, []) ∧
  decode [0x36, 0xF0] = .ok (.rolZpx 0xF0, []) ∧
  decode [0xD1, 0x20] = .ok (.cmpIzy 0x20, []) ∧
  decode [0xFE, 0x00, 0x02] = .ok (.incAbx 0x0200, []) ∧
  decode [0xF0, 0xFE] = .ok (.beq 0xFE, []) ∧
  decode [0x6C, 0xFF, 0x02] = .ok (.jmpInd 0x02FF, []) ∧
  decode [0x41, 0x20] = .ok (.eorIzx 0x20, []) ∧
  decode [0x96, 0xF0] = .ok (.stxZpy 0xF0, []) ∧
  decode [0x28] = .ok (.plp, []) ∧ decode [0xB8] = .ok (.clv, []) ∧ decode [0x9A] = .ok (.txs, [])

/-- For every instruction, with every operand at every value, and every byte string after it, decoding the
encoding followed by that string gives the instruction and leaves exactly that string. (R70, R73, R74,
R75) -/
def Obligations.DecodeOfEncodeIsIdentity : Prop :=
  ∀ (i : Instr) (rest : List Byte), decode (encode i ++ rest) = .ok (i, rest)

/-- Whenever a byte string decodes to an instruction with bytes left over, the string is the encoding of
that instruction followed by those bytes: no two encodings have one meaning. (R70, R73, R74, R75) -/
def Obligations.EncodeOfDecodeIsIdentity : Prop :=
  ∀ (bytes : List Byte) (i : Instr) (rest : List Byte),
    decode bytes = .ok (i, rest) → encode i ++ rest = bytes

/-- The list of R77 has 105 distinct bytes; a byte string is rejected as an unknown opcode exactly when its
first byte is in that list; a first byte not in it has exactly one row in the table of 151. (R75, R77) -/
def Obligations.UnknownOpcodesAreRejectedByName : Prop :=
  unknownOpcodes.length = 105 ∧ unknownOpcodes.Nodup ∧ opcodeTable.length = 151 ∧
  ∀ (op : Byte) (rest : List Byte),
    (decode (op :: rest) = .error (.unknownOpcode op) ↔ op.toNat ∈ unknownOpcodes) ∧
    (op.toNat ∉ unknownOpcodes → opcodeTable.countP (fun row => row.opcode == op) = 1)

/-- A decoder finds the length of an instruction from its opcode byte alone: two encodings with the same
first byte are equally long, and an encoding has 1, 2 or 3 bytes. (R73, R78) -/
def Obligations.LengthIsDecidedByOpcodeByte : Prop :=
  ∀ i j : Instr, (encode i).head? = (encode j).head? →
    (encode i).length = (encode j).length ∧ 1 ≤ (encode i).length ∧ (encode i).length ≤ 3

/-- When the bytes at PC decode to an instruction, the step is exec of that instruction at the same state;
exec itself moves PC past the bytes. (R7, R70) -/
def Obligations.StepRunsDecodedInstruction : Prop :=
  ∀ (s : State) (i : Instr) (rest : List Byte), decode (fetchBytes s) = .ok (i, rest) → step s = exec i s

/-- If memory holds the encoding of an instruction at PC and the addresses after it, mod 65536, then the
step is exec of that instruction; an instruction may straddle the top of memory. (R70, R71, R72, R83) -/
def Obligations.StepRunsEncodedInstructionInMemory : Prop :=
  ∀ (s : State) (i : Instr),
    (∀ k (h : k < (encode i).length), s.read (s.pc + BitVec.ofNat 16 k) = (encode i)[k]) → step s = exec i s

/-- If a table word decodes to an instruction, the step from the state with that word placed at PC is exec
of that instruction at that state. (R65, R70, R83) -/
def Obligations.PlacedWordIsRunNext : Prop :=
  ∀ (s : State) (nbits w : Nat) (i : Instr), decodeTableWord nbits w = some i →
    step (s.withFetchWord nbits w) = exec i (s.withFetchWord nbits w)

/-- When the byte at PC is one of the 151 opcodes the step completes, in every state; when it is one of the
105 of R77 the step reports that byte and its address, reads only that byte, and leaves PC one past it
and everything else unchanged. (R201, R203) -/
def Obligations.StepCompletesOrReportsUnknownOpcode : Prop :=
  ∀ s : State,
    (isUnknownOpcode (s.read s.pc) = false → ∃ t, step s = .next t) ∧
    (isUnknownOpcode (s.read s.pc) = true →
      step s = .fault (.unknownOpcode (s.read s.pc) s.pc { s with pc := s.pc + 1#16 }) ∧
      stepAccesses s = [.read s.pc (s.read s.pc)])

/-- The predicate Safe of Safety.lean holds of a state exactly when its next step answers a next state; a
run of no steps is safe, and a run of k + 1 steps is safe exactly when the first step answers a next
state and the k steps from that state are safe. (R75, R203, R215) -/
def Obligations.SafeStatesAreThoseThatComplete : Prop :=
  ∀ s : State, (Safe s = true ↔ ∃ t, step s = .next t) ∧ runsSafely 0 s = true ∧
    ∀ k, runsSafely (k + 1) s = true ↔ ∃ t, step s = .next t ∧ runsSafely k t = true

/-- From every state whose memory is in canonical form (addresses strictly rising and below 65536, no zero
byte listed), a step that completes leaves a memory in canonical form, and so does the state an unknown-
opcode report leaves. (R50, R51, R52) -/
def Obligations.StepsKeepMemoryCanonical : Prop :=
  ∀ s : State, s.mem.wf →
    (∀ t, step s = .next t → t.mem.wf) ∧
    (∀ op addr t, step s = .fault (.unknownOpcode op addr t) → t.mem.wf)

/-- The invariant of StepsKeepMemoryCanonical holds at State.reset and after a launch from any image. (R53) -/
def Obligations.ResetMemoryIsCanonical : Prop :=
  State.reset.mem.wf ∧ ∀ p image s, launch p image = .ok s → s.mem.wf

/-- If two memories in canonical form give the same byte at every one of the 65536 addresses, they are
equal: the form represents each content once. (R50, R52) -/
def Obligations.CanonicalMemoriesWithEqualBytesAreEqual : Prop :=
  ∀ m m' : Memory, m.wf → m'.wf → (∀ addr, m.read addr = m'.read addr) → m = m'

/-- For every step that completes, the list of single-byte accesses the model gives for it (R64) replays on
the memory before: each read returns the byte memory holds at that moment, and the memory at the end is
the memory after the step. (R52, R56, R62, R64, R67) -/
def Obligations.AccessesReplayToTheStep : Prop :=
  ∀ s t : State, step s = .next t → replay (stepAccesses s) s.mem = some t.mem

/-- The first access of every step is the read of the opcode byte at PC, and no step makes more than six
accesses (BRK: opcode, three pushes, two vector bytes). (R60, R64, R67) -/
def Obligations.FirstAccessIsTheOpcodeFetch : Prop :=
  ∀ s : State, (stepAccesses s).head? = some (.read s.pc (s.read s.pc)) ∧ (stepAccesses s).length ≤ 6

/-- STA absolute to the address of the next instruction completes with PC there, and the first byte the next
step fetches is the byte stored: fetch is coherent with stores. (R65, R124) -/
def Obligations.StoreIsSeenByTheNextFetch : Prop :=
  ∀ s : State, ∃ t, exec (.staAbs (s.pc + 3#16)) s = .next t ∧ t.pc = s.pc + 3#16 ∧
    (fetchBytes t).head? = some s.a

/-- The reset sequence loads PC with the little-endian word at 0xFFFC and 0xFFFD, sets I, clears B and D,
sets S to 0xFD, leaves A, X, Y, N, V, Z, C and memory unchanged, and accesses memory only to read those
two bytes, low then high. (R220) -/
def Obligations.ResetSequenceWritesFiveThings : Prop :=
  ∀ s : State,
    resetSequence s =
      { s with
        pc := BitVec.ofNat 16 (wordAt s 0xFFFC 0xFFFD), i := true, b := false, d := false, sp := 0xFD } ∧
    resetAccesses s = [.read 0xFFFC (s.read 0xFFFC), .read 0xFFFD (s.read 0xFFFD)]

/-- State.reset has PC = word at 0xFFFC of an empty store = 0x0000, I = 1, B = 0, D = 0, S = 0xFD and C = 0
as the spec states, an empty store in which every byte reads 0x00 (R53), and is the launch with an empty
image and every free power-on value zero; the empty image and A, X, Y, N, V, Z at zero are the model's
own choice (DESIGN CHOICE, log entries 2 and 1). (R43, R53, R220, R221) -/
def Obligations.ResetStateValues : Prop :=
  State.reset.pc = 0x0000 ∧ State.reset.i = true ∧ State.reset.b = false ∧ State.reset.d = false ∧
  State.reset.sp = 0xFD ∧ State.reset.c = false ∧ (∀ addr, State.reset.read addr = 0x00) ∧
  launch { a := 0, x := 0, y := 0, n := false, v := false, z := false } [] = .ok State.reset

/-- For every power-on value of A, X, Y, N, V, Z (and C as the parameter POWER_ON gives it) and every image
of at most 65536 bytes, the launch succeeds: memory holds byte i of the image at address i and 0x00
beyond it, PC is the word at 0xFFFC, I = 1, B = 0, D = 0, S = 0xFD, and the others hold their power-on
values; a longer image fails and starts no run. (R53, R221, R224, R226, R227) -/
def Obligations.LaunchLoadsImageAndResets : Prop :=
  ∀ (p : PowerOn) (image : List Byte),
    (image.length ≤ 65536 → ∃ s, launch p image = .ok s ∧
      (∀ addr : Word, s.read addr = image.getD addr.toNat 0x00) ∧
      s.pc = BitVec.ofNat 16 ((image.getD 0xFFFC 0x00).toNat + 256 * (image.getD 0xFFFD 0x00).toNat) ∧
      s.i = true ∧ s.b = false ∧ s.d = false ∧ s.sp = 0xFD ∧
      s.a = p.a ∧ s.x = p.x ∧ s.y = p.y ∧ s.n = p.n ∧ s.v = p.v ∧ s.z = p.z ∧ s.c = p.c) ∧
    (65536 < image.length → launch p image = .error .imageTooLarge)

/-- The effective address of ZP is the operand byte, of ZPX the operand plus X mod 256, of ZPY the operand
plus Y mod 256. (R95, R96, R97) -/
def Obligations.ZeroPageModesStayInPageZero : Prop :=
  ∀ (z : Byte) (s : State), ((zp z).ea s).toNat = z.toNat ∧
    ((zpx z).ea s).toNat = (z.toNat + s.x.toNat) % 256 ∧ ((zpy z).ea s).toNat = (z.toNat + s.y.toNat) % 256

/-- The effective address of ABS is the operand word, of ABX the word plus X mod 65536, of ABY the word plus
Y mod 65536, the index read as 0 to 255. (R98, R99, R100) -/
def Obligations.AbsoluteModesWrapAtSixteenBits : Prop :=
  ∀ (w : Word) (s : State), (absolute w).ea s = w ∧
    ((abx w).ea s).toNat = (w.toNat + s.x.toNat) % 65536 ∧ ((aby w).ea s).toNat = (w.toNat + s.y.toNat) % 65536

/-- IZX: with k the operand plus X mod 256, the effective address is the word whose low byte is at k and
high byte at k + 1 mod 256. IZY: the word at the operand and the operand plus 1 mod 256, plus Y mod
65536. (R101, R102) -/
def Obligations.IndirectModesReadPointerInPageZero : Prop :=
  ∀ (z : Byte) (s : State),
    let k := (z.toNat + s.x.toNat) % 256
    ((izx z).ea s).toNat = wordAt s (BitVec.ofNat 16 k) (BitVec.ofNat 16 ((k + 1) % 256)) ∧
    ((izy z).ea s).toNat =
      (wordAt s (BitVec.ofNat 16 z.toNat) (BitVec.ofNat 16 ((z.toNat + 1) % 256)) + s.y.toNat) % 65536

/-- In each of its eight forms, encoded with the byte of R111, ADC puts (A + operand + C) mod 256 in A, sets
C iff the sum exceeds 255, Z iff the result is 0, N to bit 7 of the result and V iff the signed sum lies
outside -128 to 127, which is what the formula of R111 computes; PC passes the instruction and nothing
else changes. (R111) -/
def Obligations.AdcAddsWithCarry : Prop :=
  ∀ form ∈ adcForms, form.Reads fun i len v => ∀ s : State,
    let sum := s.a.toNat + (v s).toNat + s.c.toNat
    let r := BitVec.ofNat 8 sum
    let ov := outsideSigned (s.a.toInt + (v s).toInt + (s.c.toNat : Int))
    ((((s.a ^^^ r) &&& (v s ^^^ r) &&& 0x80#8) != 0#8) = ov) ∧
    exec i s = .next
      { s with
        pc := s.pc + len, a := r, c := decide (sum > 255), z := zer (sum % 256), n := neg (sum % 256), v := ov }

/-- In each of its eight forms SBC puts (A - operand - (1 - C)) mod 256 in A, sets C iff A >= operand + (1 -
C) and Z iff the result is 0, and leaves N, V and everything else but PC unchanged. Under the parameter
SBC_WRITES_NV the same operation also writes N from bit 7 of the result and V by the formula of R113.
(R113) -/
def Obligations.SbcSubtractsWithBorrow : Prop :=
  (∀ form ∈ sbcForms, form.Reads fun i len v => ∀ s : State,
    let r := BitVec.ofInt 8 ((s.a.toNat : Int) - (v s).toNat - (1 - s.c.toNat))
    exec i s = .next
      { s with
        pc := s.pc + len, a := r, z := zer r.toNat
        c := decide ((s.a.toNat : Int) ≥ (v s).toNat + (1 - s.c.toNat)) }) ∧
  ∀ (cfg : Config) (v : Byte) (s : State), cfg.sbcWritesNV = true →
    let r := BitVec.ofInt 8 ((s.a.toNat : Int) - v.toNat - (1 - s.c.toNat))
    subtractWithBorrow cfg v s =
      { s with
        a := r, z := zer r.toNat, c := decide ((s.a.toNat : Int) ≥ v.toNat + (1 - s.c.toNat))
        n := neg r.toNat, v := ((s.a ^^^ r) &&& ((v ^^^ 0xFF#8) ^^^ r) &&& 0x80#8) != 0#8 }

/-- Running any form of ADC or SBC with D changed gives the same state with D changed: both compute in
binary whatever D holds; and 0x09 plus 0x01 with D = 1 and C = 0 is 0x0A. (R112) -/
def Obligations.DecimalFlagDoesNotChangeArithmetic : Prop :=
  (∀ form ∈ adcForms ++ sbcForms, form.Reads fun i _ _ => ∀ (s : State) (x : Bool), ∃ t,
    exec i s = .next t ∧ exec i { s with d := x } = .next { t with d := x }) ∧
  ∀ s : State, s.d = true → s.a = 0x09 → s.c = false → ∃ t, exec (.adcImm 0x01) s = .next t ∧ t.a = 0x0A

/-- In each of its eight forms AND, ORA and EOR put the bitwise and, or, exclusive or of A and the operand
in A and set N and Z from it; C, V and everything else but PC are unchanged. (R114, R115, R116) -/
def Obligations.LogicalInstructionsWriteA : Prop :=
  ReadsTo andForms (fun v s => intoA (s.a &&& v) s) ∧ ReadsTo oraForms (fun v s => intoA (s.a ||| v) s) ∧
  ReadsTo eorForms (fun v s => intoA (s.a ^^^ v) s)

/-- In each of their forms LDA, LDX and LDY put the operand in A, X, Y and set N to its bit 7 and Z iff it
is 0; nothing else but PC changes. (R121, R122, R123) -/
def Obligations.LoadsWriteRegisterAndFlags : Prop :=
  ReadsTo ldaForms intoA ∧ ReadsTo ldxForms intoX ∧ ReadsTo ldyForms intoY

/-- In each of their forms STA, STX and STY put A, X, Y at the effective address; every other byte of
memory, every register but PC and every flag is unchanged. (R124, R125, R126) -/
def Obligations.StoresWriteOneByte : Prop :=
  StoresRegister staForms State.a ∧ StoresRegister stxForms State.x ∧ StoresRegister styForms State.y

/-- ASL gives twice the operand mod 256 with C its old bit 7; LSR gives half of it with C its old bit 0 and
N clear; N and Z from the result; A or the byte at the effective address is written and nothing else but
PC changes. (R131, R132) -/
def Obligations.AslLsrShiftOneBit : Prop :=
  ShiftsTo .aslAcc 0x0A aslForms (fun v _ => 2 * v % 256) (fun v => decide (v ≥ 128)) ∧
  ShiftsTo .lsrAcc 0x4A lsrForms (fun v _ => v / 2) (fun v => decide (v % 2 = 1))

/-- ROL gives (2 * operand + C) mod 256 with C the old bit 7; ROR gives operand / 2 + 128 * C with C the old
bit 0; N and Z from the result; A or the byte at the effective address is written and nothing else but
PC changes; nine ROLs restore the byte and C. (R133, R134) -/
def Obligations.RolRorRotateThroughCarry : Prop :=
  ShiftsTo .rolAcc 0x2A rolForms (fun v c => (2 * v + c) % 256) (fun v => decide (v ≥ 128)) ∧
  ShiftsTo .rorAcc 0x6A rorForms (fun v c => v / 2 + 128 * c) (fun v => decide (v % 2 = 1)) ∧
  ∀ s : State, ∃ t, runAll (List.replicate 9 .rolAcc) s = some t ∧ t.a = s.a ∧ t.c = s.c

/-- In each of their forms CMP, CPX and CPY set Z iff register = operand, C iff register >= operand
unsigned, and N to bit 7 of the difference mod 256; no register but PC, no other flag and no memory
changes. (R135, R136, R137, R138) -/
def Obligations.ComparesSetThreeFlags : Prop :=
  Compares cmpForms State.a ∧ Compares cpxForms State.x ∧ Compares cpyForms State.y

/-- In each of their four forms INC and DEC write the byte at the effective address plus 1, minus 1, mod 256
and set N and Z from it; C, V, A and everything else but PC are unchanged. (R139, R140) -/
def Obligations.IncDecModifyMemory : Prop :=
  StepsMemory incForms (fun v => (v + 1) % 256) ∧ StepsMemory decForms (fun v => (v + 255) % 256)

/-- INX, INY, DEX and DEY write X or Y plus or minus 1 mod 256 and set N and Z from it; nothing else but PC
changes. (R141, R142, R143, R144) -/
def Obligations.IndexRegistersCountModulo256 : Prop :=
  OneByte 0xE8 .inx (fun s => intoX (BitVec.ofNat 8 ((s.x.toNat + 1) % 256)) s) ∧
  OneByte 0xC8 .iny (fun s => intoY (BitVec.ofNat 8 ((s.y.toNat + 1) % 256)) s) ∧
  OneByte 0xCA .dex (fun s => intoX (BitVec.ofNat 8 ((s.x.toNat + 255) % 256)) s) ∧
  OneByte 0x88 .dey (fun s => intoY (BitVec.ofNat 8 ((s.y.toNat + 255) % 256)) s)

/-- Each branch, encoded with its opcode and the displacement byte, goes to the opcode address plus 2 plus
the signed displacement mod 65536 when its condition holds and to the opcode address plus 2 when it does
not, and changes nothing but PC. (R151, R152, R153, R154, R155, R156, R157, R158) -/
def Obligations.BranchesAddSignedDisplacement : Prop :=
  Branches 0x90 .bcc (fun s => !s.c) ∧ Branches 0xB0 .bcs State.c ∧ Branches 0xF0 .beq State.z ∧
  Branches 0xD0 .bne (fun s => !s.z) ∧ Branches 0x10 .bpl (fun s => !s.n) ∧ Branches 0x30 .bmi State.n ∧
  Branches 0x50 .bvc (fun s => !s.v) ∧ Branches 0x70 .bvs State.v

/-- With Z = 1 and BEQ displacement 0xFE at PC, the step leaves the whole state unchanged (the source's
success trap), and a driver that stops on a self-loop stops in that state with no report, under either
unknown-opcode policy. (R153, R229) -/
def Obligations.BeqToItselfEndsSelfLoopRun : Prop :=
  ∀ (s : State) (policy : UnknownOpcodePolicy) (k : Nat), s.z = true → fetchInstr s = .ok (.beq 0xFE) →
    step s = .next s ∧ drive policy .selfLoop (k + 1) s = ⟨[], .stopped s⟩

/-- JMP in mode ABS sets PC to the operand word. In mode IND it sets PC to the word whose low byte is at the
pointer and whose high byte is at the next address, or at the start of the same page when the pointer
ends in 0xFF. Nothing else changes. (R103, R159) -/
def Obligations.JmpLoadsTarget : Prop :=
  (∀ w, encode (.jmpAbs w) = [0x4C, lo w, hi w] ∧ ∀ s : State, exec (.jmpAbs w) s = .next { s with pc := w }) ∧
  ∀ p, encode (.jmpInd p) = [0x6C, lo p, hi p] ∧ ∀ s : State,
    exec (.jmpInd p) s = .next
      { s with pc := BitVec.ofNat 16 (wordAt s p (if p.toNat % 256 = 255 then p - 255#16 else p + 1#16)) }

/-- JSR writes the high byte of the opcode address plus 2 at 0x0100 + S and the low byte at 0x0100 + (S - 1
mod 256), leaves S 2 lower and PC at the operand word, and changes no other register, flag or byte of
memory. (R160) -/
def Obligations.JsrPushesLastByteAddress : Prop :=
  ∀ w, encode (.jsr w) = [0x20, lo w, hi w] ∧ ∀ s : State,
    let ret := (s.pc.toNat + 2) % 65536
    ∃ t, exec (.jsr w) s = .next t ∧ t = { s with pc := w, sp := s.sp - 2#8, mem := t.mem } ∧
      OnlyStores s t
        [(stackAddr s.sp, BitVec.ofNat 8 (ret / 256)), (stackAddr (s.sp - 1#8), BitVec.ofNat 8 (ret % 256))]

/-- RTS sets PC to the word pulled low byte first, plus 1 mod 65536, and S 2 higher mod 256; every other
register, every flag and memory are unchanged. (R161) -/
def Obligations.RtsPullsWordPlusOne : Prop :=
  encode .rts = [0x60] ∧ ∀ s : State,
    exec .rts s = .next
      { s with
        sp := s.sp + 2#8
        pc := BitVec.ofNat 16 (wordAt s (stackAddr (s.sp + 1#8)) (stackAddr (s.sp + 2#8)) + 1) }

/-- For every opcode address, every target and every S, JSR followed by RTS leaves PC at the JSR's address
plus 3 mod 65536, and S, A, X, Y and every flag as before. (R160, R161) -/
def Obligations.RtsAfterJsrReturnsPastTheCall : Prop :=
  ∀ (w : Word) (s : State), ∃ t, runAll [.jsr w, .rts] s = some t ∧
    t = { s with pc := s.pc + 3#16, mem := t.mem }

/-- RTI sets the seven flags from the byte at 0x0100 + (S + 1), bit 5 ignored, and PC from the next two
bytes low first with no adjustment; S ends 3 higher mod 256; A, X, Y and memory are unchanged. (R162) -/
def Obligations.RtiPullsStatusAndPc : Prop :=
  encode .rti = [0x40] ∧ ∀ s : State,
    let p := s.read (stackAddr (s.sp + 1#8))
    exec .rti s = .next
      { s with
        c := p.getLsbD 0, z := p.getLsbD 1, i := p.getLsbD 2, d := p.getLsbD 3, b := p.getLsbD 4
        v := p.getLsbD 6, n := p.getLsbD 7, sp := s.sp + 3#8
        pc := BitVec.ofNat 16 (wordAt s (stackAddr (s.sp + 2#8)) (stackAddr (s.sp + 3#8))) }

/-- Push puts the byte at 0x0100 + S and leaves S one lower mod 256; Pop reads at 0x0100 + (S + 1 mod 256)
and leaves S one higher; neither changes anything else, and the stacked byte is not erased. (R26, R27) -/
def Obligations.PushAndPopMoveOneByte : Prop :=
  ∀ (v : Byte) (s : State),
    (s.push v = { s with sp := BitVec.ofNat 8 (s.sp.toNat + 255), mem := (s.push v).mem } ∧
      OnlyStores s (s.push v) [(BitVec.ofNat 16 (256 + s.sp.toNat), v)]) ∧
    s.popped = s.read (BitVec.ofNat 16 (256 + (s.sp.toNat + 1) % 256)) ∧
    s.pop = { s with sp := BitVec.ofNat 8 (s.sp.toNat + 1) }

/-- PHA writes A, and PHP the packed status byte (bit 5 set, bit 4 the B flag as it is), at 0x0100 + S; S
ends 1 lower mod 256; every other byte of memory, register and flag is unchanged. (R171, R173) -/
def Obligations.PushInstructionsStoreOneStackByte : Prop :=
  encode .pha = [0x48] ∧ encode .php = [0x08] ∧ ∀ s : State,
    (∃ t, exec .pha s = .next t ∧ t = { s with pc := s.pc + 1#16, sp := s.sp - 1#8, mem := t.mem } ∧
      OnlyStores s t [(stackAddr s.sp, s.a)]) ∧
    (∃ t, exec .php s = .next t ∧ t = { s with pc := s.pc + 1#16, sp := s.sp - 1#8, mem := t.mem } ∧
      OnlyStores s t [(stackAddr s.sp, BitVec.ofNat 8 (packed s))])

/-- PLA loads A from 0x0100 + (S + 1) and sets N and Z from it; PLP sets the seven flags from that byte, B
from bit 4, bit 5 ignored; S ends 1 higher mod 256; nothing else but PC changes. (R172, R174) -/
def Obligations.PullInstructionsReadOneStackByte : Prop :=
  OneByte 0x68 .pla
    (fun s => intoA (s.read (stackAddr (s.sp + 1#8))) { s with sp := BitVec.ofNat 8 (s.sp.toNat + 1) }) ∧
  OneByte 0x28 .plp (fun s =>
    let p := (s.read (stackAddr (s.sp + 1#8))).toNat
    { s with
      sp := BitVec.ofNat 8 (s.sp.toNat + 1), c := decide (p % 2 = 1), z := decide (p / 2 % 2 = 1)
      i := decide (p / 4 % 2 = 1), d := decide (p / 8 % 2 = 1), b := decide (p / 16 % 2 = 1)
      v := decide (p / 64 % 2 = 1), n := decide (p / 128 % 2 = 1) })

/-- For every A and every S, PHA then PLA leaves A and S as they were (N and Z are set from A); PHP then PLP
leaves every flag and S as they were; each writes only the one stack byte. (R171, R172, R173, R174) -/
def Obligations.PushThenPullRestores : Prop :=
  ∀ s : State,
    (∃ t, runAll [.pha, .pla] s = some t ∧
      t = { s with pc := s.pc + 2#16, n := neg s.a.toNat, z := zer s.a.toNat, mem := t.mem } ∧
      OnlyStores s t [(stackAddr s.sp, s.a)]) ∧
    (∃ t, runAll [.php, .plp] s = some t ∧ t = { s with pc := s.pc + 2#16, mem := t.mem } ∧
      OnlyStores s t [(stackAddr s.sp, BitVec.ofNat 8 (packed s))])

/-- The packed status byte is C plus 2Z plus 4I plus 8D plus 16B plus 32 plus 64V plus 128N; bit 5 is 1 in
every packed byte and bit 4 is the B flag. (R37) -/
def Obligations.StatusByteLayout : Prop :=
  ∀ s : State, s.packP.toNat = packed s ∧ s.packP.getLsbD 5 = true ∧ s.packP.getLsbD 4 = s.b

/-- UnpackP of a byte writes the seven flags from bits 0, 1, 2, 3, 4, 6 and 7 and nothing else, and PackP
after it is the byte with bit 5 set. (R38) -/
def Obligations.UnpackWritesSevenFlags : Prop :=
  ∀ (p : Byte) (s : State),
    s.unpackP p =
      { s with
        c := p.getLsbD 0, z := p.getLsbD 1, i := p.getLsbD 2, d := p.getLsbD 3, b := p.getLsbD 4
        v := p.getLsbD 6, n := p.getLsbD 7 } ∧
    (s.unpackP p).packP = p ||| 0x20#8

/-- SetNZ of a byte gives N = 0, Z = 1 for 0x00; N = 0, Z = 0 for 0x01 to 0x7F; N = 1, Z = 0 for 0x80 to
0xFF; it changes nothing else, and N and Z are never both 1. (R33) -/
def Obligations.SetNzOutcomes : Prop :=
  ∀ (v : Byte) (s : State),
    s.setNZ v = { s with n := decide (v.toNat ≥ 128), z := decide (v.toNat = 0) } ∧
    ¬((s.setNZ v).n = true ∧ (s.setNZ v).z = true)

/-- Each of the seven flag-control instructions writes its one flag with its constant and changes nothing
else but PC. (R176, R177, R178, R179, R180, R181, R182) -/
def Obligations.FlagControlsWriteOneFlag : Prop :=
  OneByte 0x18 .clc (fun s => { s with c := false }) ∧ OneByte 0xD8 .cld (fun s => { s with d := false }) ∧
  OneByte 0x58 .cli (fun s => { s with i := false }) ∧ OneByte 0xB8 .clv (fun s => { s with v := false }) ∧
  OneByte 0x38 .sec (fun s => { s with c := true }) ∧ OneByte 0xF8 .sed (fun s => { s with d := true }) ∧
  OneByte 0x78 .sei (fun s => { s with i := true })

/-- BRK writes the high byte and the low byte of the opcode address plus 1 and the packed status byte with
the earlier B at 0x0100 + S, S - 1, S - 2 (mod 256), sets B, leaves S 3 lower and PC the word at 0xFFFE,
0xFFFF, and changes no other flag, register or byte. Under BRK_PUSHES_B_SET the same entry pushes the
status byte with bit 4 set. (R183) -/
def Obligations.BrkEntersTheTrap : Prop :=
  (encode .brk = [0x00] ∧ ∀ s : State,
    let ret := (s.pc.toNat + 1) % 65536
    ∃ t, exec .brk s = .next t ∧
      t = { s with
            b := true, sp := s.sp - 3#8, pc := BitVec.ofNat 16 (wordAt s 0xFFFE 0xFFFF), mem := t.mem } ∧
      OnlyStores s t
        [(stackAddr s.sp, BitVec.ofNat 8 (ret / 256)), (stackAddr (s.sp - 1#8), BitVec.ofNat 8 (ret % 256)),
         (stackAddr (s.sp - 2#8), BitVec.ofNat 8 (packed s))]) ∧
  ∀ (cfg : Config) (s : State), cfg.brkPushesBSet = true →
    OnlyStores s (takeTrap cfg s)
      [(stackAddr s.sp, hi s.pc), (stackAddr (s.sp - 1#8), lo s.pc),
       (stackAddr (s.sp - 2#8), BitVec.ofNat 8 (packed s) ||| 0x10#8)]

/-- In every state, BRK followed by RTI leaves PC at the BRK opcode address plus 1 and S, A, X, Y and all
seven flags as they were before the BRK. (R204, R205) -/
def Obligations.RtiAfterBrkReturnsPastIt : Prop :=
  ∀ s : State, ∃ t, runAll [.brk, .rti] s = some t ∧ t = { s with pc := s.pc + 1#16, mem := t.mem }

/-- Two BRKs in a row leave S 6 lower mod 256, PC at the word at 0xFFFE, and the second stacked status byte
with bit 4 set; nesting raises nothing. (R183, R209) -/
def Obligations.NestedBrkStacksBreakFlag : Prop :=
  ∀ s : State, ∃ t, runAll [.brk, .brk] s = some t ∧ t.sp = s.sp - 6#8 ∧
    t.pc = BitVec.ofNat 16 (wordAt s 0xFFFE 0xFFFF) ∧ (t.read (stackAddr (s.sp - 5#8))).getLsbD 4 = true

/-- Each transfer copies its source register to its destination; all but TXS set N and Z from the value;
nothing else but PC changes. (R191, R192, R193, R194, R195, R196) -/
def Obligations.TransfersCopyRegisters : Prop :=
  OneByte 0xAA .tax (fun s => intoX s.a s) ∧ OneByte 0xA8 .tay (fun s => intoY s.a s) ∧
  OneByte 0xBA .tsx (fun s => intoX s.sp s) ∧ OneByte 0x8A .txa (fun s => intoA s.x s) ∧
  OneByte 0x9A .txs (fun s => { s with sp := s.x }) ∧ OneByte 0x98 .tya (fun s => intoA s.y s)

/-- In both its forms BIT sets Z iff A and the operand have no bit in common, N to bit 7 and V to bit 6 of
the operand; A, C, memory and everything else but PC are unchanged. (R197) -/
def Obligations.BitTestsOperandBits : Prop :=
  ReadsTo bitForms (fun v s =>
    { s with
      z := decide (s.a &&& v = 0#8), n := decide (v.toNat ≥ 128), v := decide (v.toNat / 64 % 2 = 1) })

/-- NOP, encoded 0xEA, completes with PC one past its opcode and every other piece of state unchanged.
(R198) -/
def Obligations.NopOnlyAdvancesPc : Prop :=
  OneByte 0xEA .nop (fun s => s)

/-- For every instruction that is not one of the eight branches, JMP, JSR, RTS, RTI or BRK, PC after it is
the opcode address plus the number of bytes of its encoding, mod 65536. (R25) -/
def Obligations.PcPassesTheInstructionUnlessItTransfersControl : Prop :=
  ∀ (i : Instr) (s t : State), exec i s = .next t →
    ¬opcodeIn i [0x90, 0xB0, 0xF0, 0xD0, 0x10, 0x30, 0x50, 0x70, 0x4C, 0x6C, 0x20, 0x60, 0x40, 0x00] →
    t.pc = s.pc + BitVec.ofNat 16 (encode i).length

/-- For every instruction: it changes D only if it is CLD, SED, PLP or RTI; I only if CLI, SEI, PLP or RTI;
B only if BRK, PLP or RTI; V only if ADC, BIT, CLV, PLP or RTI; C only if ADC, SBC, a shift or rotate, a
compare, CLC, SEC, PLP or RTI; the stores, TXS, NOP, BRK, PHA, PHP, JSR, RTS, JMP, the branches and the
flag controls leave N and Z unchanged, and SBC leaves N unchanged. (R29, R31, R34, R35, R39) -/
def Obligations.OnlyListedInstructionsWriteFlags : Prop :=
  ∀ (i : Instr) (s t : State), exec i s = .next t →
    (t.d ≠ s.d → opcodeIn i [0xD8, 0xF8, 0x28, 0x40]) ∧
    (t.i ≠ s.i → opcodeIn i [0x58, 0x78, 0x28, 0x40]) ∧
    (t.b ≠ s.b → opcodeIn i [0x00, 0x28, 0x40]) ∧
    (t.v ≠ s.v → opcodeIn i ((adcForms ++ bitForms).map Form.opcode ++ [0xB8, 0x28, 0x40])) ∧
    (t.c ≠ s.c → opcodeIn i
      ((adcForms ++ sbcForms ++ aslForms ++ lsrForms ++ rolForms ++ rorForms ++ cmpForms ++ cpxForms ++
        cpyForms).map Form.opcode ++ [0x0A, 0x4A, 0x2A, 0x6A, 0x18, 0x38, 0x28, 0x40])) ∧
    (t.n ≠ s.n → ¬opcodeIn i (sbcForms.map Form.opcode ++ keepsNZ)) ∧ (t.z ≠ s.z → ¬opcodeIn i keepsNZ)

/-- For every instruction: it changes A only if it is ADC, SBC, AND, ORA, EOR, LDA, PLA, TXA, TYA or a shift
or rotate of the accumulator; X only if LDX, TAX, TSX, INX, DEX; Y only if LDY, TAY, INY, DEY; S only if
TXS, a push, a pull, JSR, RTS, RTI or BRK; memory only if a store, a read-modify-write, a push, JSR or
BRK. (R28, R64, R67) -/
def Obligations.OnlyListedInstructionsWriteRegistersAndMemory : Prop :=
  ∀ (i : Instr) (s t : State), exec i s = .next t →
    (t.a ≠ s.a → opcodeIn i
      ((adcForms ++ sbcForms ++ andForms ++ oraForms ++ eorForms ++ ldaForms).map Form.opcode ++
        [0x68, 0x8A, 0x98, 0x0A, 0x4A, 0x2A, 0x6A])) ∧
    (t.x ≠ s.x → opcodeIn i (ldxForms.map Form.opcode ++ [0xAA, 0xBA, 0xE8, 0xCA])) ∧
    (t.y ≠ s.y → opcodeIn i (ldyForms.map Form.opcode ++ [0xA8, 0xC8, 0x88])) ∧
    (t.sp ≠ s.sp → opcodeIn i [0x9A, 0x48, 0x08, 0x68, 0x28, 0x20, 0x60, 0x40, 0x00]) ∧
    (t.mem ≠ s.mem → opcodeIn i
      ((staForms ++ stxForms ++ styForms ++ aslForms ++ lsrForms ++ rolForms ++ rorForms ++ incForms ++
        decForms).map Form.opcode ++ [0x48, 0x08, 0x20, 0x00]))

/-- PHA, PHP, JSR and BRK change no byte of memory outside 0x0100 to 0x01FF, whatever S is. (R23, R68) -/
def Obligations.StackWritesStayInPageOne : Prop :=
  ∀ (i : Instr) (s t : State), opcodeIn i [0x48, 0x08, 0x20, 0x00] → exec i s = .next t →
    ∀ addr : Word, t.read addr ≠ s.read addr → 0x0100 ≤ addr.toNat ∧ addr.toNat ≤ 0x01FF

/-- For every instruction but PHP and BRK, changing B, D and I beforehand changes nothing afterwards but B,
D and I themselves, each of which either has the same value in both runs or keeps what it was given.
(R35, R78, R206) -/
def Obligations.BreakDecimalInterruptFlagsSteerNothing : Prop :=
  ∀ (i : Instr) (s t : State) (b d e : Bool), ¬opcodeIn i [0x08, 0x00] → exec i s = .next t →
    ∃ u, exec i { s with b := b, d := d, i := e } = .next u ∧ { u with b := t.b, d := t.d, i := t.i } = t ∧
      (u.b = t.b ∨ (u.b = b ∧ t.b = s.b)) ∧ (u.d = t.d ∨ (u.d = d ∧ t.d = s.d)) ∧
      (u.i = t.i ∨ (u.i = e ∧ t.i = s.i))

/-- When the byte at PC is an unknown opcode, then under every stop condition but the stop address PC itself
a run under the policy fault ends there in the fault, with that one report and no final state, and a run
under the policy skip continues from PC plus 1 with the report first in its trace; with PC as the stop
address the run ends before the step, with no report. (R201, R216, R229) -/
def Obligations.UnknownOpcodePolicyOfTheDriver : Prop :=
  ∀ (s : State) (k : Nat), isUnknownOpcode (s.read s.pc) = true →
    (∀ stop, stop ≠ .atAddress s.pc →
      drive .fault stop (k + 1) s =
        ⟨[(s.read s.pc, s.pc)],
          .failed (.fault (.unknownOpcode (s.read s.pc) s.pc { s with pc := s.pc + 1#16 }))⟩ ∧
      drive .skip stop (k + 1) s =
        ⟨(s.read s.pc, s.pc) :: (drive .skip stop k { s with pc := s.pc + 1#16 }).reports,
          (drive .skip stop k { s with pc := s.pc + 1#16 }).ending⟩) ∧
    ∀ policy, drive policy (.atAddress s.pc) (k + 1) s = ⟨[], .stopped s⟩
end

