-- ==== Sys2Proof/Laws/Bits.lean ====
section
/-! SUPPORT. The byte-order helpers and addresses as numbers (00_scope.md section 6), and the bits of the
packed status byte. -/

namespace Sys2Proof.Machine

@[simp] theorem word_toNat (l h : Byte) : (word l h).toNat = h.toNat * 256 + l.toNat := by
  have hl := l.isLt
  rw [word, BitVec.toNat_append, Nat.shiftLeft_eq, ← Nat.shiftLeft_eq,
    ← Nat.shiftLeft_add_eq_or_of_lt (by omega), Nat.shiftLeft_eq]

@[simp] theorem lo_toNat (w : Word) : (lo w).toNat = w.toNat % 256 := by simp [lo]

@[simp] theorem hi_toNat (w : Word) : (hi w).toNat = w.toNat / 256 := by
  have := w.isLt
  simp only [hi, BitVec.extractLsb'_toNat, Nat.shiftRight_eq_div_pow]
  omega

@[simp] theorem word_lo_hi (w : Word) : word (lo w) (hi w) = w := by
  apply BitVec.eq_of_toNat_eq
  simp only [word_toNat, lo_toNat, hi_toNat]
  omega

@[simp] theorem lo_word (l h : Byte) : lo (word l h) = l := by
  apply BitVec.eq_of_toNat_eq
  have := l.isLt
  simp only [word_toNat, lo_toNat]
  omega

@[simp] theorem hi_word (l h : Byte) : hi (word l h) = h := by
  apply BitVec.eq_of_toNat_eq
  have := l.isLt
  simp only [word_toNat, hi_toNat]
  omega

@[simp] theorem zext16_toNat (b : Byte) : (zext16 b).toNat = b.toNat := by
  have := b.isLt
  simp only [zext16, BitVec.toNat_setWidth]
  omega

@[simp] theorem sext16_toInt (b : Byte) : (sext16 b).toInt = b.toInt := by
  rw [sext16, BitVec.toInt_signExtend_of_le (by decide)]

/-- Every stack location lies in page 1 (R23, R68). -/
@[simp] theorem stackAddr_toNat (sp : Byte) : (stackAddr sp).toNat = 256 + sp.toNat := by
  have := sp.isLt
  simp only [stackAddr, BitVec.toNat_add, zext16_toNat, BitVec.toNat_ofNat]
  omega

/-- Different values of S name different stack locations. -/
theorem stackAddr_inj {p q : Byte} : stackAddr p = stackAddr q ↔ p = q := by
  refine ⟨fun h => BitVec.eq_of_toNat_eq ?_, fun h => h ▸ rfl⟩
  have := congrArg BitVec.toNat h
  simp only [stackAddr_toNat] at this
  omega

end Sys2Proof.Machine
end

