-- ==== Sys2Proof/Laws/Memory.lean ====
section
/-! SUPPORT. The laws of the store: a read after a write, and that every operation keeps the canonical
form. The read laws hold of every list, canonical or not. -/

namespace Sys2Proof.Machine

/-- The canonical form holds of the store with nothing listed. -/
theorem Memory.wf_nil : Memory.wf [] := ⟨List.Pairwise.nil, by simp⟩

theorem Memory.read_erase_same (m : Memory) (a : Word) : (Memory.erase m a.toNat).read a = 0#8 := by
  induction m with
  | nil => rfl
  | cons cell m ih =>
    simp only [Memory.erase, List.filter_cons] at ih ⊢
    by_cases h : cell.1 = a.toNat
    · simpa [h] using ih
    · simpa [h, Memory.read] using ih

theorem Memory.read_erase_of_ne (m : Memory) (k : Nat) (b : Word) (h : b.toNat ≠ k) :
    (Memory.erase m k).read b = m.read b := by
  induction m with
  | nil => rfl
  | cons cell m ih =>
    simp only [Memory.erase, List.filter_cons] at ih ⊢
    by_cases hk : cell.1 = k
    · have hb : cell.1 ≠ b.toNat := fun e => h (e.symm.trans hk)
      simpa [hk, Memory.read, hb, h.symm] using ih
    · rw [if_pos (by simpa using hk), Memory.read, Memory.read, ih]

theorem Memory.read_insert_same (m : Memory) (a : Word) (v : Byte) (h : ∀ cell ∈ m, cell.1 ≠ a.toNat) :
    (Memory.insert m a.toNat v).read a = v := by
  induction m with
  | nil => simp [Memory.insert, Memory.read]
  | cons cell m ih =>
    simp only [Memory.insert]
    split
    · rw [Memory.read, if_neg (h cell (by simp))]
      exact ih fun c hc => h c (by simp [hc])
    · simp [Memory.read]

theorem Memory.read_insert_of_ne (m : Memory) (k : Nat) (v : Byte) (b : Word) (h : b.toNat ≠ k) :
    (Memory.insert m k v).read b = m.read b := by
  induction m with
  | nil => simp [Memory.insert, Memory.read, h.symm]
  | cons cell m ih =>
    simp only [Memory.insert]
    split
    · simp [Memory.read, ih]
    · simp [Memory.read, h.symm]

theorem Memory.mem_erase_ne {m : Memory} {k : Nat} {cell : Host.Cell} (h : cell ∈ Memory.erase m k) :
    cell ∈ m ∧ cell.1 ≠ k := by
  simpa [Memory.erase] using h

/-- A read after a write: the byte written at its address, and the byte before at every other (R52). -/
theorem Memory.read_write (m : Memory) (a b : Word) (v : Byte) :
    (m.write a v).read b = if b = a then v else m.read b := by
  have hn : b ≠ a → b.toNat ≠ a.toNat := fun h e => h (BitVec.eq_of_toNat_eq e)
  by_cases hv : v = 0#8 <;> by_cases hb : b = a <;> simp only [Memory.write, hv, hb, if_true, if_false]
  · exact Memory.read_erase_same m a
  · exact Memory.read_erase_of_ne m _ b (hn hb)
  · exact Memory.read_insert_same _ a v fun _ hc => (Memory.mem_erase_ne hc).2
  · rw [Memory.read_insert_of_ne _ _ v b (hn hb), Memory.read_erase_of_ne m _ b (hn hb)]

@[simp] theorem Memory.read_write_same (m : Memory) (a : Word) (v : Byte) : (m.write a v).read a = v := by
  simp [Memory.read_write]

theorem Memory.read_write_of_ne (m : Memory) {a b : Word} (v : Byte) (h : b ≠ a) :
    (m.write a v).read b = m.read b := by
  simp [Memory.read_write, h]

theorem Memory.wf_erase {m : Memory} (k : Nat) (h : m.wf) : Memory.wf (m.erase k) :=
  ⟨h.1.filter _, fun c hc => h.2 c (Memory.mem_erase_ne hc).1⟩

theorem Memory.mem_insert {m : Memory} {k : Nat} {v : Byte} {cell : Host.Cell}
    (h : cell ∈ Memory.insert m k v) : cell = (k, v) ∨ cell ∈ m := by
  induction m with
  | nil => simpa [Memory.insert] using h
  | cons d m ih =>
    simp only [Memory.insert] at h
    split at h
    · rcases List.mem_cons.1 h with rfl | h
      · simp
      · rcases ih h with rfl | h <;> simp_all
    · simpa using h

theorem Memory.wf_insert {m : Memory} {k : Nat} {v : Byte} (h : m.wf) (hne : ∀ cell ∈ m, cell.1 ≠ k)
    (hk : k < 65536) (hv : v ≠ 0#8) : Memory.wf (m.insert k v) := by
  refine ⟨?_, fun c hc => (Memory.mem_insert hc).elim (fun e => e ▸ ⟨hk, hv⟩) (h.2 c)⟩
  obtain ⟨hp, -⟩ := h
  induction m with
  | nil => simp [Memory.insert]
  | cons d m ih =>
    obtain ⟨hd, hm⟩ := List.pairwise_cons.1 hp
    simp only [Memory.insert]
    split
    · rename_i hlt
      refine List.pairwise_cons.2 ⟨fun c hc => ?_, ih (fun c hc => hne c (by simp [hc])) hm⟩
      rcases Memory.mem_insert hc with rfl | hc
      · exact hlt
      · exact hd c hc
    · have hkd : k < d.1 := by have := hne d (by simp); omega
      refine List.pairwise_cons.2 ⟨fun c hc => ?_, hp⟩
      rcases List.mem_cons.1 hc with rfl | hc
      · exact hkd
      · exact hkd.trans (hd c hc)

/-- A write keeps the canonical form. -/
theorem Memory.wf_write {m : Memory} (a : Word) (v : Byte) (h : m.wf) : Memory.wf (m.write a v) := by
  unfold Memory.write
  split
  · exact Memory.wf_erase _ h
  · rename_i hv
    exact Memory.wf_insert (Memory.wf_erase _ h) (fun c hc => (Memory.mem_erase_ne hc).2) a.isLt hv

end Sys2Proof.Machine
end

