-- ==== Sys2Proof/Laws/State.lean ====
section
/-! SUPPORT. What each named update of the state does to each field: one lemma per field per update, true
by definition, so that no proof unfolds a record update. -/

namespace Sys2Proof.Machine

@[simp] theorem State.advance_pc (k : Nat) (s : State) : (s.advance k).pc = s.pc + BitVec.ofNat 16 k := rfl
@[simp] theorem State.advance_a (k : Nat) (s : State) : (s.advance k).a = s.a := rfl
@[simp] theorem State.advance_x (k : Nat) (s : State) : (s.advance k).x = s.x := rfl
@[simp] theorem State.advance_y (k : Nat) (s : State) : (s.advance k).y = s.y := rfl
@[simp] theorem State.advance_sp (k : Nat) (s : State) : (s.advance k).sp = s.sp := rfl
@[simp] theorem State.advance_n (k : Nat) (s : State) : (s.advance k).n = s.n := rfl
@[simp] theorem State.advance_v (k : Nat) (s : State) : (s.advance k).v = s.v := rfl
@[simp] theorem State.advance_b (k : Nat) (s : State) : (s.advance k).b = s.b := rfl
@[simp] theorem State.advance_d (k : Nat) (s : State) : (s.advance k).d = s.d := rfl
@[simp] theorem State.advance_i (k : Nat) (s : State) : (s.advance k).i = s.i := rfl
@[simp] theorem State.advance_z (k : Nat) (s : State) : (s.advance k).z = s.z := rfl
@[simp] theorem State.advance_c (k : Nat) (s : State) : (s.advance k).c = s.c := rfl
@[simp] theorem State.advance_mem (k : Nat) (s : State) : (s.advance k).mem = s.mem := rfl

@[simp] theorem State.jump_pc (w : Word) (s : State) : (s.jump w).pc = w := rfl
@[simp] theorem State.jump_a (w : Word) (s : State) : (s.jump w).a = s.a := rfl
@[simp] theorem State.jump_x (w : Word) (s : State) : (s.jump w).x = s.x := rfl
@[simp] theorem State.jump_y (w : Word) (s : State) : (s.jump w).y = s.y := rfl
@[simp] theorem State.jump_sp (w : Word) (s : State) : (s.jump w).sp = s.sp := rfl
@[simp] theorem State.jump_n (w : Word) (s : State) : (s.jump w).n = s.n := rfl
@[simp] theorem State.jump_v (w : Word) (s : State) : (s.jump w).v = s.v := rfl
@[simp] theorem State.jump_b (w : Word) (s : State) : (s.jump w).b = s.b := rfl
@[simp] theorem State.jump_d (w : Word) (s : State) : (s.jump w).d = s.d := rfl
@[simp] theorem State.jump_i (w : Word) (s : State) : (s.jump w).i = s.i := rfl
@[simp] theorem State.jump_z (w : Word) (s : State) : (s.jump w).z = s.z := rfl
@[simp] theorem State.jump_c (w : Word) (s : State) : (s.jump w).c = s.c := rfl
@[simp] theorem State.jump_mem (w : Word) (s : State) : (s.jump w).mem = s.mem := rfl

@[simp] theorem State.write_pc (addr : Word) (u : Byte) (s : State) : (s.write addr u).pc = s.pc := rfl
@[simp] theorem State.write_a (addr : Word) (u : Byte) (s : State) : (s.write addr u).a = s.a := rfl
@[simp] theorem State.write_x (addr : Word) (u : Byte) (s : State) : (s.write addr u).x = s.x := rfl
@[simp] theorem State.write_y (addr : Word) (u : Byte) (s : State) : (s.write addr u).y = s.y := rfl
@[simp] theorem State.write_sp (addr : Word) (u : Byte) (s : State) : (s.write addr u).sp = s.sp := rfl
@[simp] theorem State.write_n (addr : Word) (u : Byte) (s : State) : (s.write addr u).n = s.n := rfl
@[simp] theorem State.write_v (addr : Word) (u : Byte) (s : State) : (s.write addr u).v = s.v := rfl
@[simp] theorem State.write_b (addr : Word) (u : Byte) (s : State) : (s.write addr u).b = s.b := rfl
@[simp] theorem State.write_d (addr : Word) (u : Byte) (s : State) : (s.write addr u).d = s.d := rfl
@[simp] theorem State.write_i (addr : Word) (u : Byte) (s : State) : (s.write addr u).i = s.i := rfl
@[simp] theorem State.write_z (addr : Word) (u : Byte) (s : State) : (s.write addr u).z = s.z := rfl
@[simp] theorem State.write_c (addr : Word) (u : Byte) (s : State) : (s.write addr u).c = s.c := rfl
@[simp] theorem State.write_mem (addr : Word) (u : Byte) (s : State) : (s.write addr u).mem = s.mem.write addr u := rfl

@[simp] theorem State.push_pc (u : Byte) (s : State) : (s.push u).pc = s.pc := rfl
@[simp] theorem State.push_a (u : Byte) (s : State) : (s.push u).a = s.a := rfl
@[simp] theorem State.push_x (u : Byte) (s : State) : (s.push u).x = s.x := rfl
@[simp] theorem State.push_y (u : Byte) (s : State) : (s.push u).y = s.y := rfl
@[simp] theorem State.push_sp (u : Byte) (s : State) : (s.push u).sp = s.sp - 1#8 := rfl
@[simp] theorem State.push_n (u : Byte) (s : State) : (s.push u).n = s.n := rfl
@[simp] theorem State.push_v (u : Byte) (s : State) : (s.push u).v = s.v := rfl
@[simp] theorem State.push_b (u : Byte) (s : State) : (s.push u).b = s.b := rfl
@[simp] theorem State.push_d (u : Byte) (s : State) : (s.push u).d = s.d := rfl
@[simp] theorem State.push_i (u : Byte) (s : State) : (s.push u).i = s.i := rfl
@[simp] theorem State.push_z (u : Byte) (s : State) : (s.push u).z = s.z := rfl
@[simp] theorem State.push_c (u : Byte) (s : State) : (s.push u).c = s.c := rfl
@[simp] theorem State.push_mem (u : Byte) (s : State) : (s.push u).mem = s.mem.write (stackAddr s.sp) u := rfl

@[simp] theorem State.pop_pc (s : State) : s.pop.pc = s.pc := rfl
@[simp] theorem State.pop_a (s : State) : s.pop.a = s.a := rfl
@[simp] theorem State.pop_x (s : State) : s.pop.x = s.x := rfl
@[simp] theorem State.pop_y (s : State) : s.pop.y = s.y := rfl
@[simp] theorem State.pop_sp (s : State) : s.pop.sp = s.sp + 1#8 := rfl
@[simp] theorem State.pop_n (s : State) : s.pop.n = s.n := rfl
@[simp] theorem State.pop_v (s : State) : s.pop.v = s.v := rfl
@[simp] theorem State.pop_b (s : State) : s.pop.b = s.b := rfl
@[simp] theorem State.pop_d (s : State) : s.pop.d = s.d := rfl
@[simp] theorem State.pop_i (s : State) : s.pop.i = s.i := rfl
@[simp] theorem State.pop_z (s : State) : s.pop.z = s.z := rfl
@[simp] theorem State.pop_c (s : State) : s.pop.c = s.c := rfl
@[simp] theorem State.pop_mem (s : State) : s.pop.mem = s.mem := rfl

@[simp] theorem State.setNZ_pc (r : Byte) (s : State) : (s.setNZ r).pc = s.pc := rfl
@[simp] theorem State.setNZ_a (r : Byte) (s : State) : (s.setNZ r).a = s.a := rfl
@[simp] theorem State.setNZ_x (r : Byte) (s : State) : (s.setNZ r).x = s.x := rfl
@[simp] theorem State.setNZ_y (r : Byte) (s : State) : (s.setNZ r).y = s.y := rfl
@[simp] theorem State.setNZ_sp (r : Byte) (s : State) : (s.setNZ r).sp = s.sp := rfl
@[simp] theorem State.setNZ_n (r : Byte) (s : State) : (s.setNZ r).n = bit7 r := rfl
@[simp] theorem State.setNZ_v (r : Byte) (s : State) : (s.setNZ r).v = s.v := rfl
@[simp] theorem State.setNZ_b (r : Byte) (s : State) : (s.setNZ r).b = s.b := rfl
@[simp] theorem State.setNZ_d (r : Byte) (s : State) : (s.setNZ r).d = s.d := rfl
@[simp] theorem State.setNZ_i (r : Byte) (s : State) : (s.setNZ r).i = s.i := rfl
@[simp] theorem State.setNZ_z (r : Byte) (s : State) : (s.setNZ r).z = isZero r := rfl
@[simp] theorem State.setNZ_c (r : Byte) (s : State) : (s.setNZ r).c = s.c := rfl
@[simp] theorem State.setNZ_mem (r : Byte) (s : State) : (s.setNZ r).mem = s.mem := rfl

@[simp] theorem State.unpackP_pc (p : Byte) (s : State) : (s.unpackP p).pc = s.pc := rfl
@[simp] theorem State.unpackP_a (p : Byte) (s : State) : (s.unpackP p).a = s.a := rfl
@[simp] theorem State.unpackP_x (p : Byte) (s : State) : (s.unpackP p).x = s.x := rfl
@[simp] theorem State.unpackP_y (p : Byte) (s : State) : (s.unpackP p).y = s.y := rfl
@[simp] theorem State.unpackP_sp (p : Byte) (s : State) : (s.unpackP p).sp = s.sp := rfl
@[simp] theorem State.unpackP_n (p : Byte) (s : State) : (s.unpackP p).n = p.getLsbD 7 := rfl
@[simp] theorem State.unpackP_v (p : Byte) (s : State) : (s.unpackP p).v = p.getLsbD 6 := rfl
@[simp] theorem State.unpackP_b (p : Byte) (s : State) : (s.unpackP p).b = p.getLsbD 4 := rfl
@[simp] theorem State.unpackP_d (p : Byte) (s : State) : (s.unpackP p).d = p.getLsbD 3 := rfl
@[simp] theorem State.unpackP_i (p : Byte) (s : State) : (s.unpackP p).i = p.getLsbD 2 := rfl
@[simp] theorem State.unpackP_z (p : Byte) (s : State) : (s.unpackP p).z = p.getLsbD 1 := rfl
@[simp] theorem State.unpackP_c (p : Byte) (s : State) : (s.unpackP p).c = p.getLsbD 0 := rfl
@[simp] theorem State.unpackP_mem (p : Byte) (s : State) : (s.unpackP p).mem = s.mem := rfl

@[simp] theorem resetSequence_pc (s : State) : (resetSequence s).pc = s.vector 0xFFFC#16 := rfl
@[simp] theorem resetSequence_a (s : State) : (resetSequence s).a = s.a := rfl
@[simp] theorem resetSequence_x (s : State) : (resetSequence s).x = s.x := rfl
@[simp] theorem resetSequence_y (s : State) : (resetSequence s).y = s.y := rfl
@[simp] theorem resetSequence_sp (s : State) : (resetSequence s).sp = 0xFD#8 := rfl
@[simp] theorem resetSequence_n (s : State) : (resetSequence s).n = s.n := rfl
@[simp] theorem resetSequence_v (s : State) : (resetSequence s).v = s.v := rfl
@[simp] theorem resetSequence_b (s : State) : (resetSequence s).b = false := rfl
@[simp] theorem resetSequence_d (s : State) : (resetSequence s).d = false := rfl
@[simp] theorem resetSequence_i (s : State) : (resetSequence s).i = true := rfl
@[simp] theorem resetSequence_z (s : State) : (resetSequence s).z = s.z := rfl
@[simp] theorem resetSequence_c (s : State) : (resetSequence s).c = s.c := rfl
@[simp] theorem resetSequence_mem (s : State) : (resetSequence s).mem = s.mem := rfl

@[simp] theorem loadA_pc (r : Byte) (s : State) : (loadA r s).pc = s.pc := rfl
@[simp] theorem loadA_a (r : Byte) (s : State) : (loadA r s).a = r := rfl
@[simp] theorem loadA_x (r : Byte) (s : State) : (loadA r s).x = s.x := rfl
@[simp] theorem loadA_y (r : Byte) (s : State) : (loadA r s).y = s.y := rfl
@[simp] theorem loadA_sp (r : Byte) (s : State) : (loadA r s).sp = s.sp := rfl
@[simp] theorem loadA_n (r : Byte) (s : State) : (loadA r s).n = bit7 r := rfl
@[simp] theorem loadA_v (r : Byte) (s : State) : (loadA r s).v = s.v := rfl
@[simp] theorem loadA_b (r : Byte) (s : State) : (loadA r s).b = s.b := rfl
@[simp] theorem loadA_d (r : Byte) (s : State) : (loadA r s).d = s.d := rfl
@[simp] theorem loadA_i (r : Byte) (s : State) : (loadA r s).i = s.i := rfl
@[simp] theorem loadA_z (r : Byte) (s : State) : (loadA r s).z = isZero r := rfl
@[simp] theorem loadA_c (r : Byte) (s : State) : (loadA r s).c = s.c := rfl
@[simp] theorem loadA_mem (r : Byte) (s : State) : (loadA r s).mem = s.mem := rfl

@[simp] theorem loadX_pc (r : Byte) (s : State) : (loadX r s).pc = s.pc := rfl
@[simp] theorem loadX_a (r : Byte) (s : State) : (loadX r s).a = s.a := rfl
@[simp] theorem loadX_x (r : Byte) (s : State) : (loadX r s).x = r := rfl
@[simp] theorem loadX_y (r : Byte) (s : State) : (loadX r s).y = s.y := rfl
@[simp] theorem loadX_sp (r : Byte) (s : State) : (loadX r s).sp = s.sp := rfl
@[simp] theorem loadX_n (r : Byte) (s : State) : (loadX r s).n = bit7 r := rfl
@[simp] theorem loadX_v (r : Byte) (s : State) : (loadX r s).v = s.v := rfl
@[simp] theorem loadX_b (r : Byte) (s : State) : (loadX r s).b = s.b := rfl
@[simp] theorem loadX_d (r : Byte) (s : State) : (loadX r s).d = s.d := rfl
@[simp] theorem loadX_i (r : Byte) (s : State) : (loadX r s).i = s.i := rfl
@[simp] theorem loadX_z (r : Byte) (s : State) : (loadX r s).z = isZero r := rfl
@[simp] theorem loadX_c (r : Byte) (s : State) : (loadX r s).c = s.c := rfl
@[simp] theorem loadX_mem (r : Byte) (s : State) : (loadX r s).mem = s.mem := rfl

@[simp] theorem loadY_pc (r : Byte) (s : State) : (loadY r s).pc = s.pc := rfl
@[simp] theorem loadY_a (r : Byte) (s : State) : (loadY r s).a = s.a := rfl
@[simp] theorem loadY_x (r : Byte) (s : State) : (loadY r s).x = s.x := rfl
@[simp] theorem loadY_y (r : Byte) (s : State) : (loadY r s).y = r := rfl
@[simp] theorem loadY_sp (r : Byte) (s : State) : (loadY r s).sp = s.sp := rfl
@[simp] theorem loadY_n (r : Byte) (s : State) : (loadY r s).n = bit7 r := rfl
@[simp] theorem loadY_v (r : Byte) (s : State) : (loadY r s).v = s.v := rfl
@[simp] theorem loadY_b (r : Byte) (s : State) : (loadY r s).b = s.b := rfl
@[simp] theorem loadY_d (r : Byte) (s : State) : (loadY r s).d = s.d := rfl
@[simp] theorem loadY_i (r : Byte) (s : State) : (loadY r s).i = s.i := rfl
@[simp] theorem loadY_z (r : Byte) (s : State) : (loadY r s).z = isZero r := rfl
@[simp] theorem loadY_c (r : Byte) (s : State) : (loadY r s).c = s.c := rfl
@[simp] theorem loadY_mem (r : Byte) (s : State) : (loadY r s).mem = s.mem := rfl

@[simp] theorem bitTest_pc (u : Byte) (s : State) : (bitTest u s).pc = s.pc := rfl
@[simp] theorem bitTest_a (u : Byte) (s : State) : (bitTest u s).a = s.a := rfl
@[simp] theorem bitTest_x (u : Byte) (s : State) : (bitTest u s).x = s.x := rfl
@[simp] theorem bitTest_y (u : Byte) (s : State) : (bitTest u s).y = s.y := rfl
@[simp] theorem bitTest_sp (u : Byte) (s : State) : (bitTest u s).sp = s.sp := rfl
@[simp] theorem bitTest_n (u : Byte) (s : State) : (bitTest u s).n = bit7 u := rfl
@[simp] theorem bitTest_v (u : Byte) (s : State) : (bitTest u s).v = bit6 u := rfl
@[simp] theorem bitTest_b (u : Byte) (s : State) : (bitTest u s).b = s.b := rfl
@[simp] theorem bitTest_d (u : Byte) (s : State) : (bitTest u s).d = s.d := rfl
@[simp] theorem bitTest_i (u : Byte) (s : State) : (bitTest u s).i = s.i := rfl
@[simp] theorem bitTest_z (u : Byte) (s : State) : (bitTest u s).z = isZero (s.a &&& u) := rfl
@[simp] theorem bitTest_c (u : Byte) (s : State) : (bitTest u s).c = s.c := rfl
@[simp] theorem bitTest_mem (u : Byte) (s : State) : (bitTest u s).mem = s.mem := rfl

@[simp] theorem compareWith_pc (reg : State → Byte) (u : Byte) (s : State) : (compareWith reg u s).pc = s.pc := rfl
@[simp] theorem compareWith_a (reg : State → Byte) (u : Byte) (s : State) : (compareWith reg u s).a = s.a := rfl
@[simp] theorem compareWith_x (reg : State → Byte) (u : Byte) (s : State) : (compareWith reg u s).x = s.x := rfl
@[simp] theorem compareWith_y (reg : State → Byte) (u : Byte) (s : State) : (compareWith reg u s).y = s.y := rfl
@[simp] theorem compareWith_sp (reg : State → Byte) (u : Byte) (s : State) : (compareWith reg u s).sp = s.sp := rfl
@[simp] theorem compareWith_n (reg : State → Byte) (u : Byte) (s : State) : (compareWith reg u s).n = bit7 (reg s - u) := rfl
@[simp] theorem compareWith_v (reg : State → Byte) (u : Byte) (s : State) : (compareWith reg u s).v = s.v := rfl
@[simp] theorem compareWith_b (reg : State → Byte) (u : Byte) (s : State) : (compareWith reg u s).b = s.b := rfl
@[simp] theorem compareWith_d (reg : State → Byte) (u : Byte) (s : State) : (compareWith reg u s).d = s.d := rfl
@[simp] theorem compareWith_i (reg : State → Byte) (u : Byte) (s : State) : (compareWith reg u s).i = s.i := rfl
@[simp] theorem compareWith_z (reg : State → Byte) (u : Byte) (s : State) : (compareWith reg u s).z = (reg s == u) := rfl
@[simp] theorem compareWith_c (reg : State → Byte) (u : Byte) (s : State) : (compareWith reg u s).c = decide (reg s ≥ u) := rfl
@[simp] theorem compareWith_mem (reg : State → Byte) (u : Byte) (s : State) : (compareWith reg u s).mem = s.mem := rfl

end Sys2Proof.Machine
end

