-- ==== Sys2Proof/Laws/Ops.lean ====
section
/-! SUPPORT. One law per shared operation: everything it can do. The instruction shapes answer a next
state and nothing else, and each law says which; the step answers as its instruction does, or reports the
unknown opcode. -/

namespace Sys2Proof.Machine

@[simp] theorem State.read_advance (k : Nat) (s : State) (b : Word) : (s.advance k).read b = s.read b := rfl

@[simp] theorem State.read_jump (w : Word) (s : State) (b : Word) : (s.jump w).read b = s.read b := rfl

@[simp] theorem State.read_pop (s : State) (b : Word) : s.pop.read b = s.read b := rfl

@[simp] theorem State.read_setNZ (r : Byte) (s : State) (b : Word) : (s.setNZ r).read b = s.read b := rfl

@[simp] theorem State.read_unpackP (p : Byte) (s : State) (b : Word) : (s.unpackP p).read b = s.read b := rfl

/-- `MemWrite` (R52): the byte at its address, every other byte as before. -/
theorem State.read_write (addr b : Word) (v : Byte) (s : State) :
    (s.write addr v).read b = if b = addr then v else s.read b := Memory.read_write ..

/-- `Push` (R26): the byte at the location S named, every other byte as before. -/
theorem State.read_push (v : Byte) (s : State) (b : Word) :
    (s.push v).read b = if b = stackAddr s.sp then v else s.read b := Memory.read_write ..

theorem State.write_keeps_wf (addr : Word) (v : Byte) {s : State} (h : s.mem.wf) : (s.write addr v).mem.wf :=
  Memory.wf_write addr v h

theorem State.push_keeps_wf (v : Byte) {s : State} (h : s.mem.wf) : (s.push v).mem.wf :=
  Memory.wf_write _ v h

theorem State.pushWord_keeps_wf (w : Word) {s : State} (h : s.mem.wf) : (s.pushWord w).mem.wf :=
  State.push_keeps_wf _ (State.push_keeps_wf _ h)

/-- Trap entry: the memory is that of three pushes. -/
theorem takeTrap_mem (cfg : Config) (s : State) :
    (takeTrap cfg s).mem =
      ((s.pushWord s.pc).push (if cfg.brkPushesBSet then s.packP ||| 0x10#8 else s.packP)).mem := rfl

theorem takeTrap_keeps_wf (cfg : Config) {s : State} (h : s.mem.wf) : (takeTrap cfg s).mem.wf := by
  rw [takeTrap_mem]
  exact State.push_keeps_wf _ (State.pushWord_keeps_wf _ h)

/-- Trap return writes no memory. -/
@[simp] theorem returnFromTrap_mem (s : State) : (returnFromTrap s).mem = s.mem := rfl

theorem implied_eq_next {f : State → State} {s t : State} : implied f s = .next t ↔ t = f (s.advance 1) := by
  simp [implied, eq_comm]

theorem readImmediate_eq_next {f : Byte → State → State} {v : Byte} {s t : State} :
    readImmediate f v s = .next t ↔ t = f v (s.advance 2) := by
  simp [readImmediate, eq_comm]

theorem readFrom_eq_next {f : Byte → State → State} {m : Resolver} {s t : State} :
    readFrom f m s = .next t ↔
      t = f (s.read (m.ea (s.advance m.length))) (s.advance m.length) := by
  simp [readFrom, eq_comm]

theorem storeTo_eq_next {reg : State → Byte} {m : Resolver} {s t : State} :
    storeTo reg m s = .next t ↔
      t = (s.advance m.length).write (m.ea (s.advance m.length)) (reg (s.advance m.length)) := by
  simp [storeTo, eq_comm]

theorem modifyAccumulator_eq_next {f : Byte → State → Byte × State} {s t : State} :
    modifyAccumulator f s = .next t ↔
      t = { (f s.a (s.advance 1)).2 with a := (f s.a (s.advance 1)).1 } := by
  simp [modifyAccumulator, eq_comm]

theorem modifyMemory_eq_next {f : Byte → State → Byte × State} {m : Resolver} {s t : State} :
    modifyMemory f m s = .next t ↔
      t = (f (s.read (m.ea (s.advance m.length))) (s.advance m.length)).2.write
        (m.ea (s.advance m.length))
        (f (s.read (m.ea (s.advance m.length))) (s.advance m.length)).1 := by
  simp [modifyMemory, eq_comm]

theorem branchIf_eq_next {cond : State → Bool} {off : Byte} {s t : State} :
    branchIf cond off s = .next t ↔
      t = if cond (s.advance 2) then (s.advance 2).jump (s.pc + 2#16 + sext16 off) else s.advance 2 := by
  simp only [branchIf, branchTarget, Host.Outcome.next.injEq]
  exact eq_comm

/-- What a completed step is: the bytes at PC hold an instruction, and the step is its execution. -/
theorem step_next_inv {s t : State} (h : step s = .next t) :
    ∃ i, fetchInstr s = .ok i ∧ exec i s = .next t := by
  unfold step at h
  split at h
  · exact ⟨_, by assumption, h⟩
  · cases h

end Sys2Proof.Machine
end

