-- ==== Sys2Proof/Laws/PerInstr.lean ====
section
/-! SUPPORT. Statements for all instructions, one lemma per constructor. `Encoding` is about an
instruction as syntax: its encoding is the opcode byte of a row of the table and that row's number of
operand bytes (R70, R73, R78). -/

namespace Sys2Proof.Laws.Encoding

/-- The encoding begins with an opcode of the table and is as long as the row's format says. -/
def Statement (i : Instr) : Prop :=
  ∃ op operands row, encode i = op :: operands ∧ lookupOpcode op = some row ∧
    (op :: operands).length = row.mode.length

theorem adcImm (v : Byte) : Statement (.adcImm v) := ⟨_, _, _, rfl, rfl, rfl⟩
theorem adcZp (z : Byte) : Statement (.adcZp z) := ⟨_, _, _, rfl, rfl, rfl⟩
theorem adcZpx (z : Byte) : Statement (.adcZpx z) := ⟨_, _, _, rfl, rfl, rfl⟩
theorem adcAbs (w : Word) : Statement (.adcAbs w) := ⟨_, _, _, rfl, rfl, rfl⟩
theorem adcAbx (w : Word) : Statement (.adcAbx w) := ⟨_, _, _, rfl, rfl, rfl⟩
theorem adcAby (w : Word) : Statement (.adcAby w) := ⟨_, _, _, rfl, rfl, rfl⟩
theorem adcIzx (z : Byte) : Statement (.adcIzx z) := ⟨_, _, _, rfl, rfl, rfl⟩
theorem adcIzy (z : Byte) : Statement (.adcIzy z) := ⟨_, _, _, rfl, rfl, rfl⟩
theorem sbcImm (v : Byte) : Statement (.sbcImm v) := ⟨_, _, _, rfl, rfl, rfl⟩
theorem sbcZp (z : Byte) : Statement (.sbcZp z) := ⟨_, _, _, rfl, rfl, rfl⟩
theorem sbcZpx (z : Byte) : Statement (.sbcZpx z) := ⟨_, _, _, rfl, rfl, rfl⟩
theorem sbcAbs (w : Word) : Statement (.sbcAbs w) := ⟨_, _, _, rfl, rfl, rfl⟩
theorem sbcAbx (w : Word) : Statement (.sbcAbx w) := ⟨_, _, _, rfl, rfl, rfl⟩
theorem sbcAby (w : Word) : Statement (.sbcAby w) := ⟨_, _, _, rfl, rfl, rfl⟩
theorem sbcIzx (z : Byte) : Statement (.sbcIzx z) := ⟨_, _, _, rfl, rfl, rfl⟩
theorem sbcIzy (z : Byte) : Statement (.sbcIzy z) := ⟨_, _, _, rfl, rfl, rfl⟩
theorem andImm (v : Byte) : Statement (.andImm v) := ⟨_, _, _, rfl, rfl, rfl⟩
theorem andZp (z : Byte) : Statement (.andZp z) := ⟨_, _, _, rfl, rfl, rfl⟩
theorem andZpx (z : Byte) : Statement (.andZpx z) := ⟨_, _, _, rfl, rfl, rfl⟩
theorem andAbs (w : Word) : Statement (.andAbs w) := ⟨_, _, _, rfl, rfl, rfl⟩
theorem andAbx (w : Word) : Statement (.andAbx w) := ⟨_, _, _, rfl, rfl, rfl⟩
theorem andAby (w : Word) : Statement (.andAby w) := ⟨_, _, _, rfl, rfl, rfl⟩
theorem andIzx (z : Byte) : Statement (.andIzx z) := ⟨_, _, _, rfl, rfl, rfl⟩
theorem andIzy (z : Byte) : Statement (.andIzy z) := ⟨_, _, _, rfl, rfl, rfl⟩
theorem oraImm (v : Byte) : Statement (.oraImm v) := ⟨_, _, _, rfl, rfl, rfl⟩
theorem oraZp (z : Byte) : Statement (.oraZp z) := ⟨_, _, _, rfl, rfl, rfl⟩
theorem oraZpx (z : Byte) : Statement (.oraZpx z) := ⟨_, _, _, rfl, rfl, rfl⟩
theorem oraAbs (w : Word) : Statement (.oraAbs w) := ⟨_, _, _, rfl, rfl, rfl⟩
theorem oraAbx (w : Word) : Statement (.oraAbx w) := ⟨_, _, _, rfl, rfl, rfl⟩
theorem oraAby (w : Word) : Statement (.oraAby w) := ⟨_, _, _, rfl, rfl, rfl⟩
theorem oraIzx (z : Byte) : Statement (.oraIzx z) := ⟨_, _, _, rfl, rfl, rfl⟩
theorem oraIzy (z : Byte) : Statement (.oraIzy z) := ⟨_, _, _, rfl, rfl, rfl⟩
theorem eorImm (v : Byte) : Statement (.eorImm v) := ⟨_, _, _, rfl, rfl, rfl⟩
theorem eorZp (z : Byte) : Statement (.eorZp z) := ⟨_, _, _, rfl, rfl, rfl⟩
theorem eorZpx (z : Byte) : Statement (.eorZpx z) := ⟨_, _, _, rfl, rfl, rfl⟩
theorem eorAbs (w : Word) : Statement (.eorAbs w) := ⟨_, _, _, rfl, rfl, rfl⟩
theorem eorAbx (w : Word) : Statement (.eorAbx w) := ⟨_, _, _, rfl, rfl, rfl⟩
theorem eorAby (w : Word) : Statement (.eorAby w) := ⟨_, _, _, rfl, rfl, rfl⟩
theorem eorIzx (z : Byte) : Statement (.eorIzx z) := ⟨_, _, _, rfl, rfl, rfl⟩
theorem eorIzy (z : Byte) : Statement (.eorIzy z) := ⟨_, _, _, rfl, rfl, rfl⟩
theorem ldaImm (v : Byte) : Statement (.ldaImm v) := ⟨_, _, _, rfl, rfl, rfl⟩
theorem ldaZp (z : Byte) : Statement (.ldaZp z) := ⟨_, _, _, rfl, rfl, rfl⟩
theorem ldaZpx (z : Byte) : Statement (.ldaZpx z) := ⟨_, _, _, rfl, rfl, rfl⟩
theorem ldaAbs (w : Word) : Statement (.ldaAbs w) := ⟨_, _, _, rfl, rfl, rfl⟩
theorem ldaAbx (w : Word) : Statement (.ldaAbx w) := ⟨_, _, _, rfl, rfl, rfl⟩
theorem ldaAby (w : Word) : Statement (.ldaAby w) := ⟨_, _, _, rfl, rfl, rfl⟩
theorem ldaIzx (z : Byte) : Statement (.ldaIzx z) := ⟨_, _, _, rfl, rfl, rfl⟩
theorem ldaIzy (z : Byte) : Statement (.ldaIzy z) := ⟨_, _, _, rfl, rfl, rfl⟩
theorem ldxImm (v : Byte) : Statement (.ldxImm v) := ⟨_, _, _, rfl, rfl, rfl⟩
theorem ldxZp (z : Byte) : Statement (.ldxZp z) := ⟨_, _, _, rfl, rfl, rfl⟩
theorem ldxZpy (z : Byte) : Statement (.ldxZpy z) := ⟨_, _, _, rfl, rfl, rfl⟩
theorem ldxAbs (w : Word) : Statement (.ldxAbs w) := ⟨_, _, _, rfl, rfl, rfl⟩
theorem ldxAby (w : Word) : Statement (.ldxAby w) := ⟨_, _, _, rfl, rfl, rfl⟩
theorem ldyImm (v : Byte) : Statement (.ldyImm v) := ⟨_, _, _, rfl, rfl, rfl⟩
theorem ldyZp (z : Byte) : Statement (.ldyZp z) := ⟨_, _, _, rfl, rfl, rfl⟩
theorem ldyZpx (z : Byte) : Statement (.ldyZpx z) := ⟨_, _, _, rfl, rfl, rfl⟩
theorem ldyAbs (w : Word) : Statement (.ldyAbs w) := ⟨_, _, _, rfl, rfl, rfl⟩
theorem ldyAbx (w : Word) : Statement (.ldyAbx w) := ⟨_, _, _, rfl, rfl, rfl⟩
theorem staZp (z : Byte) : Statement (.staZp z) := ⟨_, _, _, rfl, rfl, rfl⟩
theorem staZpx (z : Byte) : Statement (.staZpx z) := ⟨_, _, _, rfl, rfl, rfl⟩
theorem staAbs (w : Word) : Statement (.staAbs w) := ⟨_, _, _, rfl, rfl, rfl⟩
theorem staAbx (w : Word) : Statement (.staAbx w) := ⟨_, _, _, rfl, rfl, rfl⟩
theorem staAby (w : Word) : Statement (.staAby w) := ⟨_, _, _, rfl, rfl, rfl⟩
theorem staIzx (z : Byte) : Statement (.staIzx z) := ⟨_, _, _, rfl, rfl, rfl⟩
theorem staIzy (z : Byte) : Statement (.staIzy z) := ⟨_, _, _, rfl, rfl, rfl⟩
theorem stxZp (z : Byte) : Statement (.stxZp z) := ⟨_, _, _, rfl, rfl, rfl⟩
theorem stxZpy (z : Byte) : Statement (.stxZpy z) := ⟨_, _, _, rfl, rfl, rfl⟩
theorem stxAbs (w : Word) : Statement (.stxAbs w) := ⟨_, _, _, rfl, rfl, rfl⟩
theorem styZp (z : Byte) : Statement (.styZp z) := ⟨_, _, _, rfl, rfl, rfl⟩
theorem styZpx (z : Byte) : Statement (.styZpx z) := ⟨_, _, _, rfl, rfl, rfl⟩
theorem styAbs (w : Word) : Statement (.styAbs w) := ⟨_, _, _, rfl, rfl, rfl⟩
theorem aslAcc : Statement (.aslAcc) := ⟨_, _, _, rfl, rfl, rfl⟩
theorem aslZp (z : Byte) : Statement (.aslZp z) := ⟨_, _, _, rfl, rfl, rfl⟩
theorem aslZpx (z : Byte) : Statement (.aslZpx z) := ⟨_, _, _, rfl, rfl, rfl⟩
theorem aslAbs (w : Word) : Statement (.aslAbs w) := ⟨_, _, _, rfl, rfl, rfl⟩
theorem aslAbx (w : Word) : Statement (.aslAbx w) := ⟨_, _, _, rfl, rfl, rfl⟩
theorem lsrAcc : Statement (.lsrAcc) := ⟨_, _, _, rfl, rfl, rfl⟩
theorem lsrZp (z : Byte) : Statement (.lsrZp z) := ⟨_, _, _, rfl, rfl, rfl⟩
theorem lsrZpx (z : Byte) : Statement (.lsrZpx z) := ⟨_, _, _, rfl, rfl, rfl⟩
theorem lsrAbs (w : Word) : Statement (.lsrAbs w) := ⟨_, _, _, rfl, rfl, rfl⟩
theorem lsrAbx (w : Word) : Statement (.lsrAbx w) := ⟨_, _, _, rfl, rfl, rfl⟩
theorem rolAcc : Statement (.rolAcc) := ⟨_, _, _, rfl, rfl, rfl⟩
theorem rolZp (z : Byte) : Statement (.rolZp z) := ⟨_, _, _, rfl, rfl, rfl⟩
theorem rolZpx (z : Byte) : Statement (.rolZpx z) := ⟨_, _, _, rfl, rfl, rfl⟩
theorem rolAbs (w : Word) : Statement (.rolAbs w) := ⟨_, _, _, rfl, rfl, rfl⟩
theorem rolAbx (w : Word) : Statement (.rolAbx w) := ⟨_, _, _, rfl, rfl, rfl⟩
theorem rorAcc : Statement (.rorAcc) := ⟨_, _, _, rfl, rfl, rfl⟩
theorem rorZp (z : Byte) : Statement (.rorZp z) := ⟨_, _, _, rfl, rfl, rfl⟩
theorem rorZpx (z : Byte) : Statement (.rorZpx z) := ⟨_, _, _, rfl, rfl, rfl⟩
theorem rorAbs (w : Word) : Statement (.rorAbs w) := ⟨_, _, _, rfl, rfl, rfl⟩
theorem rorAbx (w : Word) : Statement (.rorAbx w) := ⟨_, _, _, rfl, rfl, rfl⟩
theorem cmpImm (v : Byte) : Statement (.cmpImm v) := ⟨_, _, _, rfl, rfl, rfl⟩
theorem cmpZp (z : Byte) : Statement (.cmpZp z) := ⟨_, _, _, rfl, rfl, rfl⟩
theorem cmpZpx (z : Byte) : Statement (.cmpZpx z) := ⟨_, _, _, rfl, rfl, rfl⟩
theorem cmpAbs (w : Word) : Statement (.cmpAbs w) := ⟨_, _, _, rfl, rfl, rfl⟩
theorem cmpAbx (w : Word) : Statement (.cmpAbx w) := ⟨_, _, _, rfl, rfl, rfl⟩
theorem cmpAby (w : Word) : Statement (.cmpAby w) := ⟨_, _, _, rfl, rfl, rfl⟩
theorem cmpIzx (z : Byte) : Statement (.cmpIzx z) := ⟨_, _, _, rfl, rfl, rfl⟩
theorem cmpIzy (z : Byte) : Statement (.cmpIzy z) := ⟨_, _, _, rfl, rfl, rfl⟩
theorem cpxImm (v : Byte) : Statement (.cpxImm v) := ⟨_, _, _, rfl, rfl, rfl⟩
theorem cpxZp (z : Byte) : Statement (.cpxZp z) := ⟨_, _, _, rfl, rfl, rfl⟩
theorem cpxAbs (w : Word) : Statement (.cpxAbs w) := ⟨_, _, _, rfl, rfl, rfl⟩
theorem cpyImm (v : Byte) : Statement (.cpyImm v) := ⟨_, _, _, rfl, rfl, rfl⟩
theorem cpyZp (z : Byte) : Statement (.cpyZp z) := ⟨_, _, _, rfl, rfl, rfl⟩
theorem cpyAbs (w : Word) : Statement (.cpyAbs w) := ⟨_, _, _, rfl, rfl, rfl⟩
theorem incZp (z : Byte) : Statement (.incZp z) := ⟨_, _, _, rfl, rfl, rfl⟩
theorem incZpx (z : Byte) : Statement (.incZpx z) := ⟨_, _, _, rfl, rfl, rfl⟩
theorem incAbs (w : Word) : Statement (.incAbs w) := ⟨_, _, _, rfl, rfl, rfl⟩
theorem incAbx (w : Word) : Statement (.incAbx w) := ⟨_, _, _, rfl, rfl, rfl⟩
theorem decZp (z : Byte) : Statement (.decZp z) := ⟨_, _, _, rfl, rfl, rfl⟩
theorem decZpx (z : Byte) : Statement (.decZpx z) := ⟨_, _, _, rfl, rfl, rfl⟩
theorem decAbs (w : Word) : Statement (.decAbs w) := ⟨_, _, _, rfl, rfl, rfl⟩
theorem decAbx (w : Word) : Statement (.decAbx w) := ⟨_, _, _, rfl, rfl, rfl⟩
theorem inx : Statement (.inx) := ⟨_, _, _, rfl, rfl, rfl⟩
theorem iny : Statement (.iny) := ⟨_, _, _, rfl, rfl, rfl⟩
theorem dex : Statement (.dex) := ⟨_, _, _, rfl, rfl, rfl⟩
theorem dey : Statement (.dey) := ⟨_, _, _, rfl, rfl, rfl⟩
theorem bcc (off : Byte) : Statement (.bcc off) := ⟨_, _, _, rfl, rfl, rfl⟩
theorem bcs (off : Byte) : Statement (.bcs off) := ⟨_, _, _, rfl, rfl, rfl⟩
theorem beq (off : Byte) : Statement (.beq off) := ⟨_, _, _, rfl, rfl, rfl⟩
theorem bne (off : Byte) : Statement (.bne off) := ⟨_, _, _, rfl, rfl, rfl⟩
theorem bpl (off : Byte) : Statement (.bpl off) := ⟨_, _, _, rfl, rfl, rfl⟩
theorem bmi (off : Byte) : Statement (.bmi off) := ⟨_, _, _, rfl, rfl, rfl⟩
theorem bvc (off : Byte) : Statement (.bvc off) := ⟨_, _, _, rfl, rfl, rfl⟩
theorem bvs (off : Byte) : Statement (.bvs off) := ⟨_, _, _, rfl, rfl, rfl⟩
theorem jmpAbs (w : Word) : Statement (.jmpAbs w) := ⟨_, _, _, rfl, rfl, rfl⟩
theorem jmpInd (p : Word) : Statement (.jmpInd p) := ⟨_, _, _, rfl, rfl, rfl⟩
theorem jsr (w : Word) : Statement (.jsr w) := ⟨_, _, _, rfl, rfl, rfl⟩
theorem rts : Statement (.rts) := ⟨_, _, _, rfl, rfl, rfl⟩
theorem rti : Statement (.rti) := ⟨_, _, _, rfl, rfl, rfl⟩
theorem pha : Statement (.pha) := ⟨_, _, _, rfl, rfl, rfl⟩
theorem pla : Statement (.pla) := ⟨_, _, _, rfl, rfl, rfl⟩
theorem php : Statement (.php) := ⟨_, _, _, rfl, rfl, rfl⟩
theorem plp : Statement (.plp) := ⟨_, _, _, rfl, rfl, rfl⟩
theorem clc : Statement (.clc) := ⟨_, _, _, rfl, rfl, rfl⟩
theorem cld : Statement (.cld) := ⟨_, _, _, rfl, rfl, rfl⟩
theorem cli : Statement (.cli) := ⟨_, _, _, rfl, rfl, rfl⟩
theorem clv : Statement (.clv) := ⟨_, _, _, rfl, rfl, rfl⟩
theorem sec : Statement (.sec) := ⟨_, _, _, rfl, rfl, rfl⟩
theorem sed : Statement (.sed) := ⟨_, _, _, rfl, rfl, rfl⟩
theorem sei : Statement (.sei) := ⟨_, _, _, rfl, rfl, rfl⟩
theorem brk : Statement (.brk) := ⟨_, _, _, rfl, rfl, rfl⟩
theorem tax : Statement (.tax) := ⟨_, _, _, rfl, rfl, rfl⟩
theorem tay : Statement (.tay) := ⟨_, _, _, rfl, rfl, rfl⟩
theorem tsx : Statement (.tsx) := ⟨_, _, _, rfl, rfl, rfl⟩
theorem txa : Statement (.txa) := ⟨_, _, _, rfl, rfl, rfl⟩
theorem txs : Statement (.txs) := ⟨_, _, _, rfl, rfl, rfl⟩
theorem tya : Statement (.tya) := ⟨_, _, _, rfl, rfl, rfl⟩
theorem bitZp (z : Byte) : Statement (.bitZp z) := ⟨_, _, _, rfl, rfl, rfl⟩
theorem bitAbs (w : Word) : Statement (.bitAbs w) := ⟨_, _, _, rfl, rfl, rfl⟩
theorem nop : Statement (.nop) := ⟨_, _, _, rfl, rfl, rfl⟩

end Sys2Proof.Laws.Encoding
end

