-- ==== Sys2Proof/Tests/Slice0.lean ====
section
/-! SUPPORT. Tests of this model, and a witness for the hypotheses of each statement that has some. Expected
results are those of 95_test_vectors.md, computed there from the spec's rules; words are those of R74. -/

namespace Sys2Proof.Tests

open Machine Claims

/-- The default start of 95_test_vectors.md, section 2. -/
def start : State := { State.reset with pc := 0x0600 }

/-- The state with bytes of memory set. -/
def holding (cells : List (Word × Byte)) (s : State) : State := cells.foldl (fun t p => t.write p.1 p.2) s

/-- The state after one step from the state with the instruction's bytes at PC, if the step completes. -/
def after (bytes : List Byte) (s : State) : Option State :=
  match step (placeBytes bytes s.pc s) with
  | .next t => some t
  | .fault _ => none
  | .refused _ => none

/-! WellFormed: each check refuses its ill-formed bytes. -/

theorem test_wellformed_accepts : WellFormedBytes [0x00] = true ∧ WellFormedBytes [0xFE, 0x34, 0x12] = true := by
  decide

theorem test_wellformed_refuses_no_bytes : WellFormedBytes [] = false := by decide

theorem test_wellformed_refuses_unknown_opcode :
    WellFormedBytes [0x02] = false ∧ WellFormedBytes [0xFF, 0x34, 0x12] = false := by decide

theorem test_wellformed_refuses_a_third_operand_byte : WellFormedBytes [0xFE, 0x34, 0x12, 0x00] = false := by
  decide

/-- Rejection by name (R70, R77). -/
theorem test_decode_rejects_by_name :
    decode [] = .error .empty ∧ decode [0x89, 0x10] = .error (.unknownOpcode 0x89) ∧
    decode [0xA9] = .error (.truncated 0xA9) ∧ decode [0xAD, 0x34] = .error (.truncated 0xAD) := by
  refine ⟨?_, ?_, ?_, ?_⟩ <;> rfl

/-! Decoding: one word of every row of the table, the opcode byte as R74 prints it, the operand 0x34 or
0x1234 with its low byte first (R71). -/

theorem test_decode_arithmetic :
    [0x3461, 0x3465, 0x3469, 0x3471, 0x3475, 0x34E1, 0x34E5, 0x34E9, 0x34F1, 0x34F5].map (decodeTableWord 16) =
    [some (.adcIzx 0x34), some (.adcZp 0x34), some (.adcImm 0x34), some (.adcIzy 0x34), some (.adcZpx 0x34),
      some (.sbcIzx 0x34), some (.sbcZp 0x34), some (.sbcImm 0x34), some (.sbcIzy 0x34), some (.sbcZpx 0x34)] ∧
    [0x12346D, 0x123479, 0x12347D, 0x1234ED, 0x1234F9, 0x1234FD].map (decodeTableWord 24) =
    [some (.adcAbs 0x1234), some (.adcAby 0x1234), some (.adcAbx 0x1234), some (.sbcAbs 0x1234),
      some (.sbcAby 0x1234), some (.sbcAbx 0x1234)] := by
  refine ⟨?_, ?_⟩ <;> rfl

theorem test_decode_logical :
    [0x3421, 0x3425, 0x3429, 0x3431, 0x3435, 0x3401, 0x3405, 0x3409, 0x3411, 0x3415, 0x3441, 0x3445, 0x3449,
      0x3451, 0x3455].map (decodeTableWord 16) =
    [some (.andIzx 0x34), some (.andZp 0x34), some (.andImm 0x34), some (.andIzy 0x34), some (.andZpx 0x34),
      some (.oraIzx 0x34), some (.oraZp 0x34), some (.oraImm 0x34), some (.oraIzy 0x34), some (.oraZpx 0x34),
      some (.eorIzx 0x34), some (.eorZp 0x34), some (.eorImm 0x34), some (.eorIzy 0x34), some (.eorZpx 0x34)] ∧
    [0x12342D, 0x123439, 0x12343D, 0x12340D, 0x123419, 0x12341D, 0x12344D, 0x123459, 0x12345D].map (decodeTableWord 24) =
    [some (.andAbs 0x1234), some (.andAby 0x1234), some (.andAbx 0x1234), some (.oraAbs 0x1234),
      some (.oraAby 0x1234), some (.oraAbx 0x1234), some (.eorAbs 0x1234), some (.eorAby 0x1234),
      some (.eorAbx 0x1234)] := by
  refine ⟨?_, ?_⟩ <;> rfl

theorem test_decode_load :
    [0x34A1, 0x34A5, 0x34A9, 0x34B1, 0x34B5, 0x34A2, 0x34A6, 0x34B6, 0x34A0, 0x34A4, 0x34B4].map (decodeTableWord 16) =
    [some (.ldaIzx 0x34), some (.ldaZp 0x34), some (.ldaImm 0x34), some (.ldaIzy 0x34), some (.ldaZpx 0x34),
      some (.ldxImm 0x34), some (.ldxZp 0x34), some (.ldxZpy 0x34), some (.ldyImm 0x34), some (.ldyZp 0x34),
      some (.ldyZpx 0x34)] ∧
    [0x1234AD, 0x1234B9, 0x1234BD, 0x1234AE, 0x1234BE, 0x1234AC, 0x1234BC].map (decodeTableWord 24) =
    [some (.ldaAbs 0x1234), some (.ldaAby 0x1234), some (.ldaAbx 0x1234), some (.ldxAbs 0x1234),
      some (.ldxAby 0x1234), some (.ldyAbs 0x1234), some (.ldyAbx 0x1234)] := by
  refine ⟨?_, ?_⟩ <;> rfl

theorem test_decode_store :
    [0x3481, 0x3485, 0x3491, 0x3495, 0x3486, 0x3496, 0x3484, 0x3494].map (decodeTableWord 16) =
    [some (.staIzx 0x34), some (.staZp 0x34), some (.staIzy 0x34), some (.staZpx 0x34), some (.stxZp 0x34),
      some (.stxZpy 0x34), some (.styZp 0x34), some (.styZpx 0x34)] ∧
    [0x12348D, 0x123499, 0x12349D, 0x12348E, 0x12348C].map (decodeTableWord 24) =
    [some (.staAbs 0x1234), some (.staAby 0x1234), some (.staAbx 0x1234), some (.stxAbs 0x1234),
      some (.styAbs 0x1234)] := by
  refine ⟨?_, ?_⟩ <;> rfl

theorem test_decode_shift :
    [0x0A, 0x4A, 0x2A, 0x6A].map (decodeTableWord 8) =
    [some .aslAcc, some .lsrAcc, some .rolAcc, some .rorAcc] ∧
    [0x3406, 0x3416, 0x3446, 0x3456, 0x3426, 0x3436, 0x3466, 0x3476].map (decodeTableWord 16) =
    [some (.aslZp 0x34), some (.aslZpx 0x34), some (.lsrZp 0x34), some (.lsrZpx 0x34), some (.rolZp 0x34),
      some (.rolZpx 0x34), some (.rorZp 0x34), some (.rorZpx 0x34)] ∧
    [0x12340E, 0x12341E, 0x12344E, 0x12345E, 0x12342E, 0x12343E, 0x12346E, 0x12347E].map (decodeTableWord 24) =
    [some (.aslAbs 0x1234), some (.aslAbx 0x1234), some (.lsrAbs 0x1234), some (.lsrAbx 0x1234),
      some (.rolAbs 0x1234), some (.rolAbx 0x1234), some (.rorAbs 0x1234), some (.rorAbx 0x1234)] := by
  refine ⟨?_, ?_, ?_⟩ <;> rfl

theorem test_decode_compare :
    [0x34C1, 0x34C5, 0x34C9, 0x34D1, 0x34D5, 0x34E0, 0x34E4, 0x34C0, 0x34C4].map (decodeTableWord 16) =
    [some (.cmpIzx 0x34), some (.cmpZp 0x34), some (.cmpImm 0x34), some (.cmpIzy 0x34), some (.cmpZpx 0x34),
      some (.cpxImm 0x34), some (.cpxZp 0x34), some (.cpyImm 0x34), some (.cpyZp 0x34)] ∧
    [0x1234CD, 0x1234D9, 0x1234DD, 0x1234EC, 0x1234CC].map (decodeTableWord 24) =
    [some (.cmpAbs 0x1234), some (.cmpAby 0x1234), some (.cmpAbx 0x1234), some (.cpxAbs 0x1234),
      some (.cpyAbs 0x1234)] := by
  refine ⟨?_, ?_⟩ <;> rfl

theorem test_decode_incdec :
    [0xE8, 0xC8, 0xCA, 0x88].map (decodeTableWord 8) =
    [some .inx, some .iny, some .dex, some .dey] ∧
    [0x34E6, 0x34F6, 0x34C6, 0x34D6].map (decodeTableWord 16) =
    [some (.incZp 0x34), some (.incZpx 0x34), some (.decZp 0x34), some (.decZpx 0x34)] ∧
    [0x1234EE, 0x1234FE, 0x1234CE, 0x1234DE].map (decodeTableWord 24) =
    [some (.incAbs 0x1234), some (.incAbx 0x1234), some (.decAbs 0x1234), some (.decAbx 0x1234)] := by
  refine ⟨?_, ?_, ?_⟩ <;> rfl

theorem test_decode_branch :
    [0x3490, 0x34B0, 0x34F0, 0x34D0, 0x3410, 0x3430, 0x3450, 0x3470].map (decodeTableWord 16) =
    [some (.bcc 0x34), some (.bcs 0x34), some (.beq 0x34), some (.bne 0x34), some (.bpl 0x34),
      some (.bmi 0x34), some (.bvc 0x34), some (.bvs 0x34)] := by
  rfl

theorem test_decode_jump :
    [0x60, 0x40].map (decodeTableWord 8) =
    [some .rts, some .rti] ∧
    [0x12344C, 0x12346C, 0x123420].map (decodeTableWord 24) =
    [some (.jmpAbs 0x1234), some (.jmpInd 0x1234), some (.jsr 0x1234)] := by
  refine ⟨?_, ?_⟩ <;> rfl

theorem test_decode_stack :
    [0x48, 0x68, 0x08, 0x28].map (decodeTableWord 8) =
    [some .pha, some .pla, some .php, some .plp] := by
  rfl

theorem test_decode_flag :
    [0x18, 0xD8, 0x58, 0xB8, 0x38, 0xF8, 0x78].map (decodeTableWord 8) =
    [some .clc, some .cld, some .cli, some .clv, some .sec, some .sed, some .sei] := by
  rfl

theorem test_decode_interrupt :
    [0x00].map (decodeTableWord 8) =
    [some .brk] := by
  rfl

theorem test_decode_transfer :
    [0xAA, 0xA8, 0xBA, 0x8A, 0x9A, 0x98].map (decodeTableWord 8) =
    [some .tax, some .tay, some .tsx, some .txa, some .txs, some .tya] := by
  rfl

theorem test_decode_misc :
    [0xEA].map (decodeTableWord 8) =
    [some .nop] ∧
    [0x3424].map (decodeTableWord 16) =
    [some (.bitZp 0x34)] ∧
    [0x12342C].map (decodeTableWord 24) =
    [some (.bitAbs 0x1234)] := by
  refine ⟨?_, ?_, ?_⟩ <;> rfl

/-! One step each. A tuple names the fields the vector is about. -/

theorem test_adc :
    (after [0x69, 0x80] { start with a := 0x80 }).map
      (fun t => (t.pc, t.a, t.n, t.v, t.z, t.c)) =
      some (0x0602, 0x00, false, true, true, true) ∧
    (after [0x69, 0xFF] { start with a := 0x80 }).map
      (fun t => (t.pc, t.a, t.n, t.v, t.z, t.c)) =
      some (0x0602, 0x7F, false, true, false, true) ∧
    (after [0x65, 0x10] (holding [(0x0010, 0x22)] { start with a := 0x20, c := true })).map
      (fun t => (t.pc, t.a, t.n, t.v, t.z, t.c)) =
      some (0x0602, 0x43, false, false, false, false) ∧
    (after [0x7D, 0xF0, 0x12] (holding [(0x1310, 0x0F)] { start with a := 0x01, x := 0x20 })).map
      (fun t => (t.pc, t.a, t.n, t.v, t.z, t.c)) =
      some (0x0603, 0x10, false, false, false, false) := by
  refine ⟨?_, ?_, ?_, ?_⟩ <;> decide

theorem test_sbc :
    (after [0xE9, 0x01] { start with c := true }).map
      (fun t => (t.pc, t.a, t.n, t.v, t.z, t.c)) =
      some (0x0602, 0xFF, false, false, false, false) ∧
    (after [0xE9, 0xFF] { start with c := true }).map
      (fun t => (t.pc, t.a, t.n, t.v, t.z, t.c)) =
      some (0x0602, 0x01, false, false, false, false) ∧
    (after [0xED, 0x00, 0x02] (holding [(0x0200, 0x3F)] { start with a := 0x40 })).map
      (fun t => (t.pc, t.a, t.n, t.v, t.z, t.c)) =
      some (0x0603, 0x00, false, false, true, true) := by
  refine ⟨?_, ?_, ?_⟩ <;> decide

theorem test_and :
    (after [0x29, 0xC0] { start with a := 0xFF }).map
      (fun t => (t.pc, t.a, t.n, t.z)) =
      some (0x0602, 0xC0, true, false) ∧
    (after [0x21, 0x20] (holding [(0x0024, 0x74), (0x0025, 0x20), (0x2074, 0x3C)] { start with a := 0xFF, x := 0x04 })).map
      (fun t => (t.pc, t.a, t.n, t.z)) =
      some (0x0602, 0x3C, false, false) := by
  refine ⟨?_, ?_⟩ <;> decide

theorem test_ora :
    (after [0x09, 0x80] { start with a := 0x01 }).map
      (fun t => (t.pc, t.a, t.n, t.z)) =
      some (0x0602, 0x81, true, false) ∧
    (after [0x11, 0x20] (holding [(0x0020, 0xF8), (0x0021, 0x30), (0x3108, 0x40)] { start with a := 0x01, y := 0x10 })).map
      (fun t => (t.pc, t.a, t.n, t.z)) =
      some (0x0602, 0x41, false, false) := by
  refine ⟨?_, ?_⟩ <;> decide

theorem test_eor :
    (after [0x49, 0xFF] { start with a := 0x55 }).map
      (fun t => (t.pc, t.a, t.n, t.z)) =
      some (0x0602, 0xAA, true, false) ∧
    (after [0x59, 0x34, 0x12] (holding [(0x1235, 0x0F)] { start with a := 0x0F, y := 0x01, v := true, c := true })).map
      (fun t => (t.pc, t.a, t.n, t.v, t.z, t.c)) =
      some (0x0603, 0x00, false, true, true, true) := by
  refine ⟨?_, ?_⟩ <;> decide

theorem test_lda :
    (after [0xA9, 0x00] { start with a := 0x55 }).map
      (fun t => (t.pc, t.a, t.n, t.z)) =
      some (0x0602, 0x00, false, true) ∧
    (after [0xA9, 0x40] { start with n := true }).map
      (fun t => (t.pc, t.a, t.n, t.z)) =
      some (0x0602, 0x40, false, false) ∧
    (after [0xB5, 0xF0] (holding [(0x0010, 0x11), (0x0110, 0x99)] { start with x := 0x20 })).map
      (fun t => (t.pc, t.a, t.n, t.z)) =
      some (0x0602, 0x11, false, false) ∧
    (after [0xBD, 0xF0, 0x12] (holding [(0x1310, 0x77)] { start with x := 0x20 })).map
      (fun t => (t.pc, t.a, t.n, t.z)) =
      some (0x0603, 0x77, false, false) ∧
    (after [0xB9, 0xFF, 0xFF] (holding [(0x0001, 0x5A)] { start with y := 0x02 })).map
      (fun t => (t.pc, t.a, t.n, t.z)) =
      some (0x0603, 0x5A, false, false) ∧
    (after [0xA1, 0xFF] (holding [(0x0000, 0x12), (0x00FF, 0x34), (0x0100, 0x99), (0x1234, 0xAB)] start)).map
      (fun t => (t.pc, t.a, t.n, t.z)) =
      some (0x0602, 0xAB, true, false) ∧
    (after [0xB1, 0xFF] (holding [(0x0000, 0x02), (0x00FF, 0xFF), (0x0100, 0x99), (0x0300, 0xCD)] { start with y := 0x01 })).map
      (fun t => (t.pc, t.a, t.n, t.z)) =
      some (0x0602, 0xCD, true, false) := by
  refine ⟨?_, ?_, ?_, ?_, ?_, ?_, ?_⟩ <;> decide

theorem test_ldx :
    (after [0xB6, 0xF0] (holding [(0x0001, 0x00)] { start with y := 0x11, n := true })).map
      (fun t => (t.pc, t.x, t.n, t.z)) =
      some (0x0602, 0x00, false, true) ∧
    (after [0xBE, 0xFF, 0x02] (holding [(0x0300, 0x42)] { start with y := 0x01 })).map
      (fun t => (t.pc, t.x, t.n, t.z)) =
      some (0x0603, 0x42, false, false) := by
  refine ⟨?_, ?_⟩ <;> decide

theorem test_ldy :
    (after [0xA0, 0x00] { start with y := 0x09 }).map
      (fun t => (t.pc, t.y, t.n, t.z)) =
      some (0x0602, 0x00, false, true) ∧
    (after [0xBC, 0x00, 0x03] (holding [(0x03FF, 0x81)] { start with x := 0xFF })).map
      (fun t => (t.pc, t.y, t.n, t.z)) =
      some (0x0603, 0x81, true, false) := by
  refine ⟨?_, ?_⟩ <;> decide

theorem test_sta :
    (after [0x85, 0x10] { start with n := true }).map
      (fun t => (t.pc, t.n, t.z, t.read 0x0010)) =
      some (0x0602, true, false, 0x00) ∧
    (after [0x95, 0xF0] { start with a := 0xAA, x := 0x20 }).map
      (fun t => (t.pc, t.read 0x0010)) =
      some (0x0602, 0xAA) ∧
    (after [0x99, 0xF0, 0xFF] { start with a := 0x12, y := 0x20 }).map
      (fun t => (t.pc, t.read 0x0010)) =
      some (0x0603, 0x12) ∧
    (after [0x81, 0x20] (holding [(0x0000, 0x00), (0x0001, 0x05)] { start with a := 0x5A, x := 0xE0 })).map
      (fun t => (t.pc, t.read 0x0500)) =
      some (0x0602, 0x5A) ∧
    (after [0x91, 0x20] (holding [(0x0020, 0x01), (0x0021, 0x04)] { start with a := 0xEE, y := 0xFF })).map
      (fun t => (t.pc, t.read 0x0500)) =
      some (0x0602, 0xEE) := by
  refine ⟨?_, ?_, ?_, ?_, ?_⟩ <;> decide

theorem test_stx :
    (after [0x96, 0xF0] { start with x := 0x77, y := 0x0F }).map
      (fun t => (t.pc, t.read 0x00FF)) =
      some (0x0602, 0x77) ∧
    (after [0x8E, 0x00, 0x02] { start with x := 0x80 }).map
      (fun t => (t.pc, t.read 0x0200)) =
      some (0x0603, 0x80) := by
  refine ⟨?_, ?_⟩ <;> decide

theorem test_sty :
    (after [0x94, 0x10] { start with x := 0x05, y := 0x01 }).map
      (fun t => (t.pc, t.read 0x0015)) =
      some (0x0602, 0x01) ∧
    (after [0x8C, 0x00, 0x02] start).map
      (fun t => (t.pc, t.z, t.read 0x0200)) =
      some (0x0603, false, 0x00) := by
  refine ⟨?_, ?_⟩ <;> decide

theorem test_asl :
    (after [0x0A] { start with a := 0x40, c := true }).map
      (fun t => (t.pc, t.a, t.n, t.z, t.c)) =
      some (0x0601, 0x80, true, false, false) ∧
    (after [0x06, 0x10] (holding [(0x0010, 0x81)] start)).map
      (fun t => (t.pc, t.n, t.z, t.c, t.read 0x0010)) =
      some (0x0602, false, false, true, 0x02) := by
  refine ⟨?_, ?_⟩ <;> decide

theorem test_lsr :
    (after [0x4A] { start with a := 0xFF, n := true }).map
      (fun t => (t.pc, t.a, t.n, t.z, t.c)) =
      some (0x0601, 0x7F, false, false, true) ∧
    (after [0x5E, 0x00, 0x02] (holding [(0x0201, 0x02)] { start with x := 0x01, c := true })).map
      (fun t => (t.pc, t.n, t.z, t.c, t.read 0x0201)) =
      some (0x0603, false, false, false, 0x01) := by
  refine ⟨?_, ?_⟩ <;> decide

theorem test_rol :
    (after [0x2A] { start with a := 0x80, c := true }).map
      (fun t => (t.pc, t.a, t.n, t.z, t.c)) =
      some (0x0601, 0x01, false, false, true) ∧
    (after [0x36, 0xF0] (holding [(0x0010, 0x7F)] { start with x := 0x20, c := true })).map
      (fun t => (t.pc, t.n, t.z, t.c, t.read 0x0010)) =
      some (0x0602, true, false, false, 0xFF) := by
  refine ⟨?_, ?_⟩ <;> decide

theorem test_ror :
    (after [0x6A] { start with a := 0x01, c := true }).map
      (fun t => (t.pc, t.a, t.n, t.z, t.c)) =
      some (0x0601, 0x80, true, false, true) ∧
    (after [0x6E, 0x00, 0x02] (holding [(0x0200, 0xFE)] start)).map
      (fun t => (t.pc, t.n, t.z, t.c, t.read 0x0200)) =
      some (0x0603, false, false, false, 0x7F) := by
  refine ⟨?_, ?_⟩ <;> decide

theorem test_cmp :
    (after [0xC9, 0xFF] start).map
      (fun t => (t.pc, t.a, t.n, t.z, t.c)) =
      some (0x0602, 0x00, false, false, false) ∧
    (after [0xC9, 0x80] { start with a := 0x7F, v := true }).map
      (fun t => (t.pc, t.a, t.n, t.v, t.z, t.c)) =
      some (0x0602, 0x7F, true, true, false, false) ∧
    (after [0xD1, 0x20] (holding [(0x0020, 0x00), (0x0021, 0x03), (0x0302, 0x42)] { start with a := 0x42, y := 0x02 })).map
      (fun t => (t.pc, t.a, t.n, t.z, t.c)) =
      some (0x0602, 0x42, false, true, true) := by
  refine ⟨?_, ?_, ?_⟩ <;> decide

theorem test_cpx :
    (after [0xE0, 0x0A] { start with x := 0x09 }).map
      (fun t => (t.pc, t.x, t.n, t.z, t.c)) =
      some (0x0602, 0x09, true, false, false) ∧
    (after [0xEC, 0x00, 0x02] (holding [(0x0200, 0x7F)] { start with x := 0x80 })).map
      (fun t => (t.pc, t.x, t.n, t.z, t.c)) =
      some (0x0603, 0x80, false, false, true) := by
  refine ⟨?_, ?_⟩ <;> decide

theorem test_cpy :
    (after [0xC0, 0x00] { start with y := 0x80 }).map
      (fun t => (t.pc, t.y, t.n, t.z, t.c)) =
      some (0x0602, 0x80, true, false, true) ∧
    (after [0xC4, 0x10] (holding [(0x0010, 0x02)] { start with y := 0x01 })).map
      (fun t => (t.pc, t.y, t.n, t.z, t.c)) =
      some (0x0602, 0x01, true, false, false) := by
  refine ⟨?_, ?_⟩ <;> decide

theorem test_inc :
    (after [0xE6, 0x10] (holding [(0x0010, 0xFF)] { start with c := true })).map
      (fun t => (t.pc, t.n, t.z, t.c, t.read 0x0010)) =
      some (0x0602, false, true, true, 0x00) ∧
    (after [0xFE, 0x00, 0x02] (holding [(0x0210, 0x00)] { start with x := 0x10 })).map
      (fun t => (t.pc, t.n, t.z, t.read 0x0210)) =
      some (0x0603, false, false, 0x01) := by
  refine ⟨?_, ?_⟩ <;> decide

theorem test_dec :
    (after [0xC6, 0x10] (holding [(0x0010, 0x00)] start)).map
      (fun t => (t.pc, t.n, t.z, t.read 0x0010)) =
      some (0x0602, true, false, 0xFF) ∧
    (after [0xD6, 0xF8] (holding [(0x0008, 0x80)] { start with x := 0x10 })).map
      (fun t => (t.pc, t.n, t.z, t.read 0x0008)) =
      some (0x0602, false, false, 0x7F) := by
  refine ⟨?_, ?_⟩ <;> decide

theorem test_inx :
    (after [0xE8] { start with x := 0xFF }).map
      (fun t => (t.pc, t.x, t.n, t.z)) =
      some (0x0601, 0x00, false, true) ∧
    (after [0xE8] { start with x := 0x7F }).map
      (fun t => (t.pc, t.x, t.n, t.z)) =
      some (0x0601, 0x80, true, false) := by
  refine ⟨?_, ?_⟩ <;> decide

theorem test_iny :
    (after [0xC8] { start with y := 0xFF }).map
      (fun t => (t.pc, t.y, t.n, t.z)) =
      some (0x0601, 0x00, false, true) ∧
    (after [0xC8] { start with z := true }).map
      (fun t => (t.pc, t.y, t.n, t.z)) =
      some (0x0601, 0x01, false, false) := by
  refine ⟨?_, ?_⟩ <;> decide

theorem test_dex :
    (after [0xCA] start).map (fun t => (t.pc, t.x, t.n, t.z)) = some (0x0601, 0xFF, true, false) ∧
    (after [0xCA] { start with x := 0x01 }).map
      (fun t => (t.pc, t.x, t.n, t.z)) =
      some (0x0601, 0x00, false, true) := by
  refine ⟨?_, ?_⟩ <;> decide

theorem test_dey :
    (after [0x88] start).map (fun t => (t.pc, t.y, t.n, t.z)) = some (0x0601, 0xFF, true, false) ∧
    (after [0x88] { start with y := 0x80, n := true }).map
      (fun t => (t.pc, t.y, t.n, t.z)) =
      some (0x0601, 0x7F, false, false) := by
  refine ⟨?_, ?_⟩ <;> decide

theorem test_bcc :
    (after [0x90, 0x7F] start).map (fun t => t.pc) = some 0x0681 ∧
    (after [0x90, 0x7F] { start with c := true }).map (fun t => t.pc) = some 0x0602 := by
  refine ⟨?_, ?_⟩ <;> decide

theorem test_bcs :
    (after [0xB0, 0x80] { start with c := true }).map (fun t => t.pc) = some 0x0582 ∧
    (after [0xB0, 0x80] start).map (fun t => t.pc) = some 0x0602 := by
  refine ⟨?_, ?_⟩ <;> decide

theorem test_beq :
    (after [0xF0, 0x05] start).map (fun t => t.pc) = some 0x0602 ∧
    (after [0xF0, 0x10] { start with pc := 0xFFF8, z := true }).map (fun t => t.pc) = some 0x000A := by
  refine ⟨?_, ?_⟩ <;> decide

theorem test_bne :
    (after [0xD0, 0xF9] { start with pc := 0x0609, z := true }).map (fun t => t.pc) = some 0x060B ∧
    (after [0xD0, 0xF0] { start with pc := 0x0004 }).map (fun t => t.pc) = some 0xFFF6 := by
  refine ⟨?_, ?_⟩ <;> decide

theorem test_bpl :
    (after [0x10, 0x00] start).map (fun t => t.pc) = some 0x0602 ∧
    (after [0x10, 0x10] { start with n := true }).map (fun t => t.pc) = some 0x0602 := by
  refine ⟨?_, ?_⟩ <;> decide

theorem test_bmi :
    (after [0x30, 0x10] { start with n := true }).map (fun t => t.pc) = some 0x0612 ∧
    (after [0x30, 0x10] start).map (fun t => t.pc) = some 0x0602 := by
  refine ⟨?_, ?_⟩ <;> decide

theorem test_bvc :
    (after [0x50, 0x04] start).map (fun t => t.pc) = some 0x0606 ∧
    (after [0x50, 0x04] { start with v := true }).map (fun t => t.pc) = some 0x0602 := by
  refine ⟨?_, ?_⟩ <;> decide

theorem test_bvs :
    (after [0x70, 0xFC] { start with v := true }).map (fun t => t.pc) = some 0x05FE ∧
    (after [0x70, 0xFC] start).map (fun t => t.pc) = some 0x0602 := by
  refine ⟨?_, ?_⟩ <;> decide

theorem test_jmp :
    (after [0x4C, 0x34, 0x12] start).map (fun t => t.pc) = some 0x1234 ∧
    (after [0x6C, 0x00, 0x02] (holding [(0x0200, 0x78), (0x0201, 0x56)] start)).map
      (fun t => t.pc) =
      some 0x5678 ∧
    (after [0x6C, 0xFF, 0x02] (holding [(0x0200, 0x12), (0x02FF, 0x34), (0x0300, 0x99)] start)).map
      (fun t => t.pc) =
      some 0x1234 := by
  refine ⟨?_, ?_, ?_⟩ <;> decide

theorem test_jsr :
    (after [0x20, 0x00, 0x07] { start with sp := 0x00 }).map
      (fun t => (t.pc, t.sp, t.read 0x0100, t.read 0x01FF)) =
      some (0x0700, 0xFE, 0x06, 0x02) ∧
    (after [0x20, 0x34, 0x12] { start with pc := 0x06FE, sp := 0xFF }).map
      (fun t => (t.pc, t.sp, t.read 0x01FF, t.read 0x01FE)) =
      some (0x1234, 0xFD, 0x07, 0x00) := by
  refine ⟨?_, ?_⟩ <;> decide

theorem test_rts :
    (after [0x60] (holding [(0x01FC, 0xFF), (0x01FD, 0x06)] { start with pc := 0x0700, sp := 0xFB })).map
      (fun t => (t.pc, t.sp)) =
      some (0x0700, 0xFD) ∧
    (after [0x60] (holding [(0x0100, 0x20), (0x01FF, 0x10)] { start with pc := 0x0700, sp := 0xFE })).map
      (fun t => (t.pc, t.sp)) =
      some (0x2011, 0x00) := by
  refine ⟨?_, ?_⟩ <;> decide

theorem test_rti :
    (after [0x40] (holding [(0x01FB, 0xFF), (0x01FC, 0xFF), (0x01FD, 0x12)] { start with pc := 0x0700, sp := 0xFA })).map
      (fun t => (t.pc, t.sp, t.n, t.v, t.b, t.d, t.i, t.z, t.c)) =
      some (0x12FF, 0xFD, true, true, true, true, true, true, true) ∧
    (after [0x40] (holding [(0x01FB, 0x00), (0x01FC, 0x00), (0x01FD, 0x80)] { start with pc := 0x0700, sp := 0xFA, n := true, v := true, b := true, d := true, z := true, c := true })).map
      (fun t => (t.pc, t.sp, t.n, t.v, t.b, t.d, t.i, t.z, t.c)) =
      some (0x8000, 0xFD, false, false, false, false, false, false, false) := by
  refine ⟨?_, ?_⟩ <;> rfl

theorem test_pha :
    (after [0x48] { start with a := 0x42 }).map
      (fun t => (t.pc, t.a, t.sp, t.read 0x01FD)) =
      some (0x0601, 0x42, 0xFC, 0x42) ∧
    (after [0x48] { start with sp := 0x00 }).map
      (fun t => (t.pc, t.a, t.sp, t.z, t.read 0x0100)) =
      some (0x0601, 0x00, 0xFF, false, 0x00) := by
  refine ⟨?_, ?_⟩ <;> decide

theorem test_pla :
    (after [0x68] (holding [(0x01FD, 0x00)] { start with a := 0x55, sp := 0xFC })).map
      (fun t => (t.pc, t.a, t.sp, t.n, t.z)) =
      some (0x0601, 0x00, 0xFD, false, true) ∧
    (after [0x68] (holding [(0x0100, 0x7F)] { start with sp := 0xFF, n := true })).map
      (fun t => (t.pc, t.a, t.sp, t.n, t.z)) =
      some (0x0601, 0x7F, 0x00, false, false) := by
  refine ⟨?_, ?_⟩ <;> decide

theorem test_php :
    (after [0x08] { start with n := true, c := true }).map
      (fun t => (t.pc, t.sp, t.read 0x01FD)) =
      some (0x0601, 0xFC, 0xA5) ∧
    (after [0x08] { start with sp := 0x00, v := true, b := true, i := false, z := true }).map
      (fun t => (t.pc, t.sp, t.read 0x0100)) =
      some (0x0601, 0xFF, 0x72) := by
  refine ⟨?_, ?_⟩ <;> decide

theorem test_plp :
    (after [0x28] (holding [(0x01FD, 0xC3)] { start with sp := 0xFC })).map
      (fun t => (t.pc, t.sp, t.n, t.v, t.b, t.d, t.i, t.z, t.c)) =
      some (0x0601, 0xFD, true, true, false, false, false, true, true) ∧
    (after [0x28] (holding [(0x01FD, 0x30)] { start with sp := 0xFC })).map
      (fun t => (t.pc, t.sp, t.n, t.v, t.b, t.d, t.i, t.z, t.c)) =
      some (0x0601, 0xFD, false, false, true, false, false, false, false) := by
  refine ⟨?_, ?_⟩ <;> rfl

theorem test_clc :
    (after [0x18] { start with c := true }).map (fun t => (t.pc, t.c)) = some (0x0601, false) := by
  decide

theorem test_cld :
    (after [0xD8] { start with d := true }).map (fun t => (t.pc, t.d)) = some (0x0601, false) := by
  decide

theorem test_cli :
    (after [0x58] start).map (fun t => (t.pc, t.i)) = some (0x0601, false) := by
  decide

theorem test_clv :
    (after [0xB8] { start with v := true }).map (fun t => (t.pc, t.v)) = some (0x0601, false) := by
  decide

theorem test_sec :
    (after [0x38] start).map (fun t => (t.pc, t.c)) = some (0x0601, true) := by
  decide

theorem test_sed :
    (after [0xF8] start).map (fun t => (t.pc, t.d)) = some (0x0601, true) := by
  decide

theorem test_sei :
    (after [0x78] { start with i := false }).map (fun t => (t.pc, t.i)) = some (0x0601, true) := by
  decide

theorem test_brk :
    (after [0x00] (holding [(0xFFFE, 0x00), (0xFFFF, 0x07)] { start with pc := 0x0604, n := true, b := true, i := false, c := true })).map
      (fun t => (t.pc, t.sp, t.n, t.v, t.b, t.d, t.i, t.z, t.c, t.read 0x01FD, t.read 0x01FC, t.read 0x01FB)) =
      some (0x0700, 0xFA, true, false, true, false, false, false, true, 0x06, 0x05, 0xB1) ∧
    (after [0x00] (holding [(0xFFFE, 0x34), (0xFFFF, 0x12)] { start with pc := 0x0604, sp := 0x01 })).map
      (fun t => (t.pc, t.sp, t.b, t.read 0x0101, t.read 0x0100, t.read 0x01FF)) =
      some (0x1234, 0xFE, true, 0x06, 0x05, 0x24) := by
  refine ⟨?_, ?_⟩ <;> rfl

theorem test_tax :
    (after [0xAA] { start with a := 0x80 }).map
      (fun t => (t.pc, t.a, t.x, t.n, t.z)) =
      some (0x0601, 0x80, 0x80, true, false) := by
  decide

theorem test_tay :
    (after [0xA8] { start with y := 0x01 }).map
      (fun t => (t.pc, t.a, t.y, t.n, t.z)) =
      some (0x0601, 0x00, 0x00, false, true) := by
  decide

theorem test_tsx :
    (after [0xBA] { start with x := 0x01, sp := 0x00 }).map
      (fun t => (t.pc, t.x, t.sp, t.n, t.z)) =
      some (0x0601, 0x00, 0x00, false, true) := by
  decide

theorem test_txa :
    (after [0x8A] { start with a := 0xFF, x := 0x0A, n := true }).map
      (fun t => (t.pc, t.a, t.x, t.n, t.z)) =
      some (0x0601, 0x0A, 0x0A, false, false) := by
  decide

theorem test_txs :
    (after [0x9A] { start with x := 0xFF }).map
      (fun t => (t.pc, t.x, t.sp, t.n, t.z)) =
      some (0x0601, 0xFF, 0xFF, false, false) ∧
    (after [0x9A] { start with n := true }).map
      (fun t => (t.pc, t.x, t.sp, t.n, t.z)) =
      some (0x0601, 0x00, 0x00, true, false) := by
  refine ⟨?_, ?_⟩ <;> decide

theorem test_tya :
    (after [0x98] { start with y := 0xFF }).map
      (fun t => (t.pc, t.a, t.y, t.n, t.z)) =
      some (0x0601, 0xFF, 0xFF, true, false) := by
  decide

theorem test_bit :
    (after [0x24, 0x10] (holding [(0x0010, 0xC0)] { start with a := 0x3F })).map
      (fun t => (t.pc, t.a, t.n, t.v, t.z, t.c)) =
      some (0x0602, 0x3F, true, true, true, false) ∧
    (after [0x2C, 0x00, 0x02] (holding [(0x0200, 0x00)] { start with a := 0xFF, n := true, v := true, c := true })).map
      (fun t => (t.pc, t.a, t.n, t.v, t.z, t.c)) =
      some (0x0603, 0xFF, false, false, true, true) := by
  refine ⟨?_, ?_⟩ <;> decide

theorem test_nop :
    (after [0xEA] { start with pc := 0x0606, a := 0x12, n := true, c := true }).map
      (fun t => (t.pc, t.a, t.n, t.c)) =
      some (0x0607, 0x12, true, true) ∧
    (after [0xEA] { start with pc := 0xFFFF }).map (fun t => t.pc) = some 0x0000 := by
  refine ⟨?_, ?_⟩ <;> decide

/-! The accesses of a step, in order (95_test_vectors.md, the table of accesses; R64). -/

/-- The accesses of the next step from the state with the instruction's bytes at PC. -/
def accessesOf (bytes : List Byte) (s : State) : List Access := stepAccesses (placeBytes bytes s.pc s)

theorem test_accesses_load_indirect_indexed :
    accessesOf [0xB1, 0x20] (holding [(0x0021, 0x03), (0x0303, 0xEF)] { start with pc := 0x0613, y := 0x03 }) =
      [.read 0x0613 0xB1, .read 0x0614 0x20, .read 0x0020 0x00, .read 0x0021 0x03, .read 0x0303 0xEF] := by
  decide

theorem test_accesses_store :
    accessesOf [0x99, 0x00, 0x04] { start with pc := 0x0615, a := 0xEF, y := 0x03 } =
      [.read 0x0615 0x99, .read 0x0616 0x00, .read 0x0617 0x04, .write 0x0403 0xEF] := by decide

theorem test_accesses_modify :
    accessesOf [0xE6, 0x30] { start with pc := 0x0700 } =
      [.read 0x0700 0xE6, .read 0x0701 0x30, .read 0x0030 0x00, .write 0x0030 0x01] := by decide

theorem test_accesses_call :
    accessesOf [0x20, 0x13, 0x06] { start with pc := 0x060D, sp := 0xFF } =
      [.read 0x060D 0x20, .read 0x060E 0x13, .read 0x060F 0x06, .write 0x01FF 0x06, .write 0x01FE 0x0F] := by
  decide

theorem test_accesses_brk :
    accessesOf [0x00] (holding [(0xFFFF, 0x07)] { start with pc := 0x060A, sp := 0xFF, v := true }) =
      [.read 0x060A 0x00, .write 0x01FF 0x06, .write 0x01FE 0x0B, .write 0x01FD 0x64, .read 0xFFFE 0x00,
       .read 0xFFFF 0x07] := by decide

theorem test_accesses_rti :
    accessesOf [0x40]
      (holding [(0x01FD, 0x64), (0x01FE, 0x0B), (0x01FF, 0x06)] { start with pc := 0x0702, sp := 0xFC }) =
      [.read 0x0702 0x40, .read 0x01FD 0x64, .read 0x01FE 0x0B, .read 0x01FF 0x06] := by decide

theorem test_accesses_jump_indirect :
    accessesOf [0x6C, 0xFF, 0x02] (holding [(0x0200, 0x08)] { start with pc := 0x060C }) =
      [.read 0x060C 0x6C, .read 0x060D 0xFF, .read 0x060E 0x02, .read 0x02FF 0x00, .read 0x0200 0x08] := by
  decide

/-! Reset, launch, unknown opcodes, the parameters. -/

/-- S8: `Reset()` with [FFFC]=00, [FFFD]=06; S and I differ beforehand. -/
theorem test_reset_sequence :
    (let t := resetSequence (holding [(0xFFFD, 0x06)] { start with i := false, b := true, d := true, sp := 0x10 })
     (t.pc, t.i, t.b, t.d, t.sp)) = (0x0600, true, false, false, 0xFD) := by decide

/-- U2: the registers a reset leaves alone keep their power-on values (P1's EE, 11, 22, N = V = Z = 1). -/
theorem test_launch_keeps_power_on_values :
    launch { a := 0xEE, x := 0x11, y := 0x22, n := true, v := true, z := true } [] =
      .ok { State.reset with a := 0xEE, x := 0x11, y := 0x22, n := true, v := true, z := true } := by rfl

/-- The rows of the bytes 02 and FF: the report, and PC one past the byte. -/
theorem test_unknown_opcode :
    step (holding [(0x0602, 0x02), (0x0603, 0x55)] { start with pc := 0x0602, sp := 0xF0 }) =
      .fault (.unknownOpcode 0x02 0x0602
        (holding [(0x0602, 0x02), (0x0603, 0x55)] { start with pc := 0x0603, sp := 0xF0 })) ∧
    step (holding [(0x0602, 0xFF), (0x0603, 0x55)] { start with pc := 0x0602, sp := 0xF0 }) =
      .fault (.unknownOpcode 0xFF 0x0602
        (holding [(0x0602, 0xFF), (0x0603, 0x55)] { start with pc := 0x0603, sp := 0xF0 })) := by
  refine ⟨?_, ?_⟩ <;> rfl

/-- P5 under the policy `skip`: the run keeps the report and runs the NOP after the byte 02. -/
theorem test_skip_policy_goes_on :
    (drive .skip .stepCount 2 (placeBytes [0x02, 0xEA] 0x0602 { start with pc := 0x0602 })).reports =
      [(0x02, 0x0602)] := by rfl

/-- The SBC rows 50 - B0 and 80 - 01 under `SBC_WRITES_NV` (remarks on the SBC rows). -/
theorem test_sbc_writes_nv_when_the_parameter_says_so :
    (let t := subtractWithBorrow { config with sbcWritesNV := true } 0xB0 { start with a := 0x50, c := true }
     (t.a, t.n, t.v)) = (0xA0, true, true) ∧
    (let t := subtractWithBorrow { config with sbcWritesNV := true } 0x01
      { start with a := 0x80, c := true, n := true }
     (t.a, t.n, t.v)) = (0x7F, false, true) := by decide

/-- The first BRK row under `BRK_PUSHES_B_SET`: the status byte is 34 in place of 24. -/
theorem test_brk_pushes_b_set_when_the_parameter_says_so :
    (takeTrap { config with brkPushesBSet := true } { start with pc := 0x0605 }).read 0x01FB = 0x34 := by decide

/-! Witnesses: a concrete state and operands that meet the hypotheses of each statement that has some, with
the boundary values of its clauses. -/

theorem test_witness_EncodeOfDecodeIsIdentity :
    decode [0xAD, 0x34, 0x12, 0x55] = .ok (.ldaAbs 0x1234, [0x55]) ∧ decode [0xEA] = .ok (.nop, []) := by
  refine ⟨?_, ?_⟩ <;> rfl

theorem test_witness_UnknownOpcodesAreRejectedByName :
    (0x02#8).toNat ∈ unknownOpcodes ∧ (0xFF#8).toNat ∈ unknownOpcodes ∧ (0x00#8).toNat ∉ unknownOpcodes ∧
    (0xFE#8).toNat ∉ unknownOpcodes := by decide

theorem test_witness_LengthIsDecidedByOpcodeByte :
    (encode (.ldaAbs 0x0000)).head? = (encode (.ldaAbs 0xFFFF)).head? ∧ (encode (.ldaAbs 0x0000)).length = 3 ∧
    (encode (.beq 0x00)).head? = (encode (.beq 0x80)).head? ∧ (encode (.beq 0x00)).length = 2 ∧
    (encode .nop).head? = (encode .nop).head? ∧ (encode .nop).length = 1 := by decide

theorem test_witness_StepRunsDecodedInstruction :
    decode (fetchBytes (placeBytes [0xA9, 0x05] 0x0600 start)) = .ok (.ldaImm 0x05, [0x00]) := by rfl

/-- The instruction's last byte lies past the top of memory (D15). -/
theorem test_witness_StepRunsEncodedInstructionInMemory :
    ∀ k (h : k < (encode (.ldaAbs 0x1234)).length),
      (placeBytes [0xAD, 0x34, 0x12] 0xFFFE { start with pc := 0xFFFE }).read (0xFFFE + BitVec.ofNat 16 k) =
        (encode (.ldaAbs 0x1234))[k] := by decide

theorem test_witness_PlacedWordIsRunNext : decodeTableWord 24 0x1234AD = some (.ldaAbs 0x1234) := by rfl

/-- The bytes on either side of both ends of the list of R77, and every state's own byte. -/
theorem test_witness_StepCompletesOrReportsUnknownOpcode :
    isUnknownOpcode ((holding [(0x0600, 0x01)] start).read 0x0600) = false ∧
    isUnknownOpcode ((holding [(0x0600, 0xFE)] start).read 0x0600) = false ∧
    isUnknownOpcode ((holding [(0x0600, 0x02)] start).read 0x0600) = true ∧
    isUnknownOpcode ((holding [(0x0600, 0xFF)] start).read 0x0600) = true := by decide

theorem test_witness_SafeStatesAreThoseThatComplete :
    Safe (holding [(0x0600, 0xEA)] start) = true ∧ Safe (holding [(0x0600, 0x02)] start) = false ∧
    runsSafely 2 (holding [(0x0600, 0xEA)] start) = true ∧
    runsSafely 2 (holding [(0x0600, 0xEA), (0x0601, 0x02)] start) = false ∧
    step (holding [(0x0600, 0xEA)] start) = .next (holding [(0x0600, 0xEA)] { start with pc := 0x0601 }) := by
  refine ⟨?_, ?_, ?_, ?_, ?_⟩ <;> rfl

theorem test_witness_StepsKeepMemoryCanonical :
    (holding [(0x0600, 0x48)] { start with a := 0x42 }).mem.wf ∧
    step (holding [(0x0600, 0x48)] { start with a := 0x42 }) =
      .next { start with pc := 0x0601, a := 0x42, sp := 0xFC, mem := [(0x01FD, 0x42), (0x0600, 0x48)] } ∧
    (holding [(0x0600, 0x02)] start).mem.wf ∧
    step (holding [(0x0600, 0x02)] start) =
      .fault (.unknownOpcode 0x02 0x0600 { start with pc := 0x0601, mem := [(0x0600, 0x02)] }) := by
  refine ⟨by decide, rfl, by decide, rfl⟩

theorem test_witness_ResetMemoryIsCanonical :
    launch { a := 1, x := 2, y := 3, n := true, v := false, z := true } [0xEA, 0x00, 0x4C] =
      .ok { State.reset with
            a := 1, x := 2, y := 3, n := true, z := true, mem := [(0, 0xEA), (2, 0x4C)] } := by rfl

theorem test_witness_CanonicalMemoriesWithEqualBytesAreEqual :
    Memory.wf [(0x0000, 0x01), (0xFFFF, 0x80)] ∧
    ∀ addr, Memory.read [(0x0000, 0x01), (0xFFFF, 0x80)] addr =
      Memory.read (Memory.write [(0xFFFF, 0x80)] 0x0000 0x01) addr :=
  ⟨by decide, fun _ => rfl⟩

theorem test_witness_AccessesReplayToTheStep :
    step (holding [(0x0600, 0x48)] { start with a := 0x42 }) =
      .next { start with pc := 0x0601, a := 0x42, sp := 0xFC, mem := [(0x01FD, 0x42), (0x0600, 0x48)] } := by rfl

/-- S6: an image of 65536 bytes and one of 65537. -/
theorem test_witness_LaunchLoadsImageAndResets :
    (List.replicate 65536 0xFF#8).length ≤ 65536 ∧ 65536 < (List.replicate 65537 0xFF#8).length := by
  simp only [List.length_replicate]
  decide

theorem test_witness_AdcAddsWithCarry :
    Form.imm 0x69 .adcImm ∈ adcForms ∧ Form.byte 0x71 .adcIzy izy ∈ adcForms := by simp [adcForms]

theorem test_witness_SbcSubtractsWithBorrow :
    Form.imm 0xE9 .sbcImm ∈ sbcForms ∧ Form.byte 0xF1 .sbcIzy izy ∈ sbcForms ∧
    ({ config with sbcWritesNV := true } : Config).sbcWritesNV = true := by simp [sbcForms]

theorem test_witness_DecimalFlagDoesNotChangeArithmetic :
    Form.imm 0x69 .adcImm ∈ adcForms ++ sbcForms ∧ Form.byte 0xF1 .sbcIzy izy ∈ adcForms ++ sbcForms ∧
    { start with d := true, a := 0x09 }.d = true ∧ { start with d := true, a := 0x09 }.a = 0x09 ∧
    { start with d := true, a := 0x09 }.c = false := by
  refine ⟨by simp [adcForms], by simp [sbcForms], rfl, rfl, rfl⟩

theorem test_witness_LogicalInstructionsWriteA :
    Form.byte 0x21 .andIzx izx ∈ andForms ∧ Form.wide 0x1D .oraAbx abx ∈ oraForms ∧
    Form.imm 0x49 .eorImm ∈ eorForms := by simp [andForms, oraForms, eorForms]

theorem test_witness_LoadsWriteRegisterAndFlags :
    Form.byte 0xA1 .ldaIzx izx ∈ ldaForms ∧ Form.byte 0xB6 .ldxZpy zpy ∈ ldxForms ∧
    Form.wide 0xBC .ldyAbx abx ∈ ldyForms := by simp [ldaForms, ldxForms, ldyForms]

theorem test_witness_StoresWriteOneByte :
    Form.byte 0x91 .staIzy izy ∈ staForms ∧ Form.byte 0x96 .stxZpy zpy ∈ stxForms ∧
    Form.wide 0x8C .styAbs absolute ∈ styForms := by simp [staForms, stxForms, styForms]

theorem test_witness_AslLsrShiftOneBit :
    Form.byte 0x06 .aslZp zp ∈ aslForms ∧ Form.wide 0x5E .lsrAbx abx ∈ lsrForms := by simp [aslForms, lsrForms]

theorem test_witness_RolRorRotateThroughCarry :
    Form.byte 0x36 .rolZpx zpx ∈ rolForms ∧ Form.wide 0x6E .rorAbs absolute ∈ rorForms := by
  simp [rolForms, rorForms]

theorem test_witness_ComparesSetThreeFlags :
    Form.byte 0xD1 .cmpIzy izy ∈ cmpForms ∧ Form.imm 0xE0 .cpxImm ∈ cpxForms ∧
    Form.wide 0xCC .cpyAbs absolute ∈ cpyForms := by simp [cmpForms, cpxForms, cpyForms]

theorem test_witness_IncDecModifyMemory :
    Form.wide 0xFE .incAbx abx ∈ incForms ∧ Form.byte 0xC6 .decZp zp ∈ decForms := by simp [incForms, decForms]

theorem test_witness_BitTestsOperandBits :
    Form.byte 0x24 .bitZp zp ∈ bitForms ∧ Form.wide 0x2C .bitAbs absolute ∈ bitForms := by simp [bitForms]

/-- S5: the success trap. -/
theorem test_witness_BeqToItselfEndsSelfLoopRun :
    (placeBytes [0xF0, 0xFE] 0x0600 { start with z := true }).z = true ∧
    fetchInstr (placeBytes [0xF0, 0xFE] 0x0600 { start with z := true }) = .ok (.beq 0xFE) := by
  refine ⟨?_, ?_⟩ <;> rfl

/-- The pointers next to the boundary of the two clauses, and at the top of memory. -/
theorem test_witness_JmpLoadsTarget :
    indirectHighAddr 0x02FE = 0x02FF ∧ indirectHighAddr 0x02FF = 0x0200 ∧ indirectHighAddr 0x0300 = 0x0301 ∧
    indirectHighAddr 0xFFFF = 0xFF00 := by decide

/-- The values where the three outcomes meet. -/
theorem test_witness_SetNzOutcomes :
    ((start.setNZ 0x00).n, (start.setNZ 0x00).z) = (false, true) ∧
    ((start.setNZ 0x01).n, (start.setNZ 0x01).z) = (false, false) ∧
    ((start.setNZ 0x7F).n, (start.setNZ 0x7F).z) = (false, false) ∧
    ((start.setNZ 0x80).n, (start.setNZ 0x80).z) = (true, false) ∧
    ((start.setNZ 0xFF).n, (start.setNZ 0xFF).z) = (true, false) := by decide

theorem test_witness_BrkEntersTheTrap : ({ config with brkPushesBSet := true } : Config).brkPushesBSet = true := by rfl

theorem test_witness_PcPassesTheInstructionUnlessItTransfersControl :
    exec (.ldaAbs 0x1234) { start with pc := 0xFFFE } = .next { start with pc := 0x0001, z := true } ∧
    ¬opcodeIn (.ldaAbs 0x1234)
      [0x90, 0xB0, 0xF0, 0xD0, 0x10, 0x30, 0x50, 0x70, 0x4C, 0x6C, 0x20, 0x60, 0x40, 0x00] := by
  refine ⟨rfl, ?_⟩
  unfold opcodeIn
  decide

/-- For each clause an instruction that changes the flag. -/
theorem test_witness_OnlyListedInstructionsWriteFlags :
    exec .sed start = .next { start with pc := 0x0601, d := true } ∧
    exec .cli start = .next { start with pc := 0x0601, i := false } ∧
    exec .plp (holding [(0x01FD, 0x10)] { start with sp := 0xFC }) =
      .next (holding [(0x01FD, 0x10)] { start with pc := 0x0601, b := true, i := false }) ∧
    exec .clv { start with v := true } = .next { start with pc := 0x0601 } ∧
    exec .sec start = .next { start with pc := 0x0601, c := true } ∧
    exec (.ldaImm 0x80) start = .next { start with pc := 0x0602, a := 0x80, n := true } ∧
    exec (.ldaImm 0x00) start = .next { start with pc := 0x0602, z := true } := by
  refine ⟨?_, ?_, ?_, ?_, ?_, ?_, ?_⟩ <;> rfl

/-- For each clause an instruction that changes the register, or memory. -/
theorem test_witness_OnlyListedInstructionsWriteRegistersAndMemory :
    exec .txa { start with x := 0x01 } = .next { start with pc := 0x0601, x := 0x01, a := 0x01 } ∧
    exec .inx start = .next { start with pc := 0x0601, x := 0x01 } ∧
    exec .dey { start with y := 0x02 } = .next { start with pc := 0x0601, y := 0x01 } ∧
    exec .txs start = .next { start with pc := 0x0601, sp := 0x00 } ∧
    exec (.staZp 0x10) { start with a := 0x42 } =
      .next { start with pc := 0x0602, a := 0x42, mem := [(0x0010, 0x42)] } := by
  refine ⟨?_, ?_, ?_, ?_, ?_⟩ <;> rfl

/-- The lowest and the highest stack location. -/
theorem test_witness_StackWritesStayInPageOne :
    opcodeIn .pha [0x48, 0x08, 0x20, 0x00] ∧
    exec .pha { start with a := 0x42, sp := 0x00 } =
      .next { start with pc := 0x0601, a := 0x42, sp := 0xFF, mem := [(0x0100, 0x42)] } ∧
    exec .pha { start with a := 0x42, sp := 0xFF } =
      .next { start with pc := 0x0601, a := 0x42, sp := 0xFE, mem := [(0x01FF, 0x42)] } ∧
    Memory.read [(0x0100, 0x42)] 0x0100 ≠ start.read 0x0100 ∧
    Memory.read [(0x01FF, 0x42)] 0x01FF ≠ start.read 0x01FF := by
  refine ⟨?_, rfl, rfl, by decide, by decide⟩
  unfold opcodeIn
  decide

theorem test_witness_BreakDecimalInterruptFlagsSteerNothing :
    ¬opcodeIn (.adcImm 0x09) [0x08, 0x00] ∧
    exec (.adcImm 0x09) { start with a := 0x09 } = .next { start with pc := 0x0602, a := 0x12 } := by
  refine ⟨?_, rfl⟩
  unfold opcodeIn
  decide

/-- Every stop condition, with the stop addresses on either side of PC and PC itself. -/
theorem test_witness_UnknownOpcodePolicyOfTheDriver :
    isUnknownOpcode ((holding [(0x0602, 0x02)] { start with pc := 0x0602 }).read 0x0602) = true ∧
    StopCondition.stepCount ≠ .atAddress 0x0602 ∧ StopCondition.selfLoop ≠ .atAddress 0x0602 ∧
    StopCondition.atAddress 0x0601 ≠ .atAddress 0x0602 ∧ StopCondition.atAddress 0x0603 ≠ .atAddress 0x0602 ∧
    StopCondition.atAddress 0x0602 = .atAddress 0x0602 := by decide

end Sys2Proof.Tests
end

section
/-! SUPPORT. The rules of fetch and step (R7, R70): what the decoder reads from the bytes at PC is what is
fetched, and what is fetched is what is executed. -/

namespace Sys2Proof.Machine

/-- Fetch answers an instruction exactly when the bytes at PC decode to it, whatever bytes are left over. -/
theorem fetchInstr_eq_ok_iff {s : State} {i : Instr} :
    fetchInstr s = .ok i ↔ ∃ rest, decode (fetchBytes s) = .ok (i, rest) := by
  unfold fetchInstr
  cases decode (fetchBytes s) with
  | ok decoded => simp [Prod.ext_iff]
  | error e => simp

theorem step_of_fetchInstr_ok {s : State} {i : Instr} (hfetch : fetchInstr s = .ok i) : step s = exec i s := by
  simp only [step, hfetch]

/-- Settles O6: the decoded instruction is the fetched one, and the step executes what it fetches. -/
theorem stepRunsDecodedInstruction : Obligations.StepRunsDecodedInstruction := by
  intro s i rest hdecode
  have hfetch : fetchInstr s = .ok i := fetchInstr_eq_ok_iff.mpr ⟨rest, hdecode⟩
  exact step_of_fetchInstr_ok hfetch

end Sys2Proof.Machine
end

section
/-! SUPPORT. The stack and the status byte (R26, R27, R33, R37, R38) and the reset state: each shared
operation of 10_state.md as numbers and bits, and the statements about them. -/

namespace Sys2Proof.Machine

open Claims

theorem bit7_eq_neg (r : Byte) : bit7 r = neg r.toNat := BitVec.msb_eq_decide r

theorem isZero_eq_zer (r : Byte) : isZero r = zer r.toNat := by
  rw [Bool.eq_iff_iff]
  simp [isZero, zer, ← BitVec.toNat_inj]

/-- A byte with bit 7 set is not zero, so `SetNZ` never sets N and Z both (R33). -/
theorem not_bit7_and_isZero (r : Byte) : ¬(bit7 r = true ∧ isZero r = true) := by
  rw [bit7_eq_neg, isZero_eq_zer]
  simp only [neg, zer, decide_eq_true_eq]
  omega

/-- Settles O47: N and Z are `neg` and `zer` of the byte, and no byte is both zero and at least 128. -/
theorem setNzOutcomes : Obligations.SetNzOutcomes := by
  intro v s
  refine ⟨?_, not_bit7_and_isZero v⟩
  rw [State.setNZ, bit7_eq_neg, isZero_eq_zer]
  rfl

theorem getLsbD_flagAt (k : Nat) (flag : Bool) (j : Nat) :
    (flagAt k flag).getLsbD j = (flag && decide (j < 8) && decide (j = k)) := by
  cases flag with
  | false => simp [flagAt]
  | true =>
    simp only [flagAt, if_true, BitVec.getLsbD_shiftLeft, BitVec.getLsbD_one]
    rw [Bool.eq_iff_iff]
    simp
    omega

/-- The bits of the packed status byte (R37): the flags in their places, and 1 at bit 5. -/
theorem State.getLsbD_packP (s : State) {j : Nat} (hj : j < 8) :
    s.packP.getLsbD j = [s.c, s.z, s.i, s.d, s.b, true, s.v, s.n].getD j false := by
  interval_cases j <;> simp [State.packP, getLsbD_flagAt, -BitVec.getLsbD_eq_getElem]

/-- A byte is the weighted sum of its bits. -/
theorem toNat_eq_sum_bits (p : Byte) :
    p.toNat = (p.getLsbD 0).toNat + 2 * (p.getLsbD 1).toNat + 4 * (p.getLsbD 2).toNat +
      8 * (p.getLsbD 3).toNat + 16 * (p.getLsbD 4).toNat + 32 * (p.getLsbD 5).toNat +
      64 * (p.getLsbD 6).toNat + 128 * (p.getLsbD 7).toNat := by
  have := p.isLt
  simp only [BitVec.getLsbD, Nat.toNat_testBit]
  omega

theorem State.toNat_packP (s : State) : s.packP.toNat = packed s := by
  rw [toNat_eq_sum_bits]
  simp [State.getLsbD_packP, packed, -BitVec.getLsbD_eq_getElem]

/-- Settles O45: the byte is the weighted sum of its bits, which are the flags and the 1 at bit 5. -/
theorem statusByteLayout : Obligations.StatusByteLayout := fun s =>
  ⟨s.toNat_packP, s.getLsbD_packP (by decide), s.getLsbD_packP (by decide)⟩

/-- Unpacking a byte and packing the flags again gives the byte with bit 5 set (R38). -/
theorem State.packP_unpackP (p : Byte) (s : State) : (s.unpackP p).packP = p ||| 0x20#8 := by
  refine BitVec.eq_of_getLsbD_eq fun j hj => ?_
  rw [State.getLsbD_packP _ hj]
  interval_cases j <;> simp

/-- Settles O46: what is packed after unpacking agrees with the byte at every bit but bit 5. -/
theorem unpackWritesSevenFlags : Obligations.UnpackWritesSevenFlags := fun p s =>
  ⟨rfl, s.packP_unpackP p⟩

theorem stackAddr_eq_ofNat (sp : Byte) : stackAddr sp = BitVec.ofNat 16 (256 + sp.toNat) := by
  rw [← stackAddr_toNat, BitVec.ofNat_toNat, BitVec.setWidth_eq]

theorem sub_one_eq_ofNat (sp : Byte) : sp - 1#8 = BitVec.ofNat 8 (sp.toNat + 255) := by
  apply BitVec.eq_of_toNat_eq
  simp [BitVec.toNat_sub]
  omega

theorem add_one_eq_ofNat (sp : Byte) : sp + 1#8 = BitVec.ofNat 8 (sp.toNat + 1) := by
  apply BitVec.eq_of_toNat_eq
  simp

theorem State.push_onlyStores (v : Byte) (s : State) : OnlyStores s (s.push v) [(stackAddr s.sp, v)] := by
  simp +contextual [OnlyStores, State.read_push]

/-- Settles O41: the laws of push and pop, with S and the stack location written as numbers. -/
theorem pushAndPopMoveOneByte : Obligations.PushAndPopMoveOneByte := by
  intro v s
  refine ⟨⟨?_, ?_⟩, ?_, ?_⟩
  · rw [← sub_one_eq_ofNat]
    rfl
  · rw [← stackAddr_eq_ofNat]
    exact s.push_onlyStores v
  · rw [State.popped, stackAddr_eq_ofNat, add_one_eq_ofNat, BitVec.toNat_ofNat]
  · rw [← add_one_eq_ofNat]
    rfl

theorem State.read_reset (addr : Word) : State.reset.read addr = 0x00#8 := rfl

/-- The reset state is the launch from an empty image with every free power-on value zero. -/
theorem launch_nil_eq_reset :
    launch { a := 0, x := 0, y := 0, n := false, v := false, z := false } [] = .ok State.reset := rfl

/-- Settles O18: the reset state's values, its empty store, and the launch it is. -/
theorem resetStateValues : Obligations.ResetStateValues :=
  ⟨rfl, rfl, rfl, rfl, rfl, rfl, State.read_reset, launch_nil_eq_reset⟩

end Sys2Proof.Machine
end

section
/-! SUPPORT. What each instruction may write (R25, R28, R39). The parts of the state have names, an effect
class says which opcodes share a set of written parts, and one law says that every instruction completes
and writes only the parts of its class. What the statements list is then read off the classes. -/

namespace Sys2Proof.Machine

open Claims

/-- A part of the state: a register, a flag, or the store. -/
inductive Part where
  | pc | a | x | y | sp | n | v | b | d | i | z | c | mem
  deriving DecidableEq

/-- The part holds the same in both states. -/
def Part.Same (s t : State) : Part → Prop
  | .pc => t.pc = s.pc
  | .a => t.a = s.a
  | .x => t.x = s.x
  | .y => t.y = s.y
  | .sp => t.sp = s.sp
  | .n => t.n = s.n
  | .v => t.v = s.v
  | .b => t.b = s.b
  | .d => t.d = s.d
  | .i => t.i = s.i
  | .z => t.z = s.z
  | .c => t.c = s.c
  | .mem => t.mem = s.mem

/-- From `s` to `t` only the parts listed may have changed. -/
def ChangesOnly (parts : List Part) (s t : State) : Prop := ∀ p, p ∈ parts ∨ p.Same s t

theorem ChangesOnly.refl (s : State) : ChangesOnly [] s s := by
  intro p
  cases p <;> exact .inr rfl

theorem ChangesOnly.trans {ps qs : List Part} {s t u : State} (hst : ChangesOnly ps s t)
    (htu : ChangesOnly qs t u) : ChangesOnly (ps ++ qs) s u := by
  intro p
  rcases hst p with hp | hp
  · exact .inl (List.mem_append_left _ hp)
  rcases htu p with hq | hq
  · exact .inl (List.mem_append_right _ hq)
  · cases p <;> exact .inr (Eq.trans hq hp)

theorem ChangesOnly.mono {ps qs : List Part} {s t : State} (h : ChangesOnly ps s t) (hsub : ps ⊆ qs) :
    ChangesOnly qs s t := fun p => (h p).imp_left (@hsub p)

/-! What each shared operation may change. -/

theorem State.jump_changesOnly (w : Word) (s : State) : ChangesOnly [.pc] s (s.jump w) := by
  intro p
  cases p <;> simp [Part.Same]

theorem State.write_changesOnly (addr : Word) (v : Byte) (s : State) :
    ChangesOnly [.mem] s (s.write addr v) := by
  intro p
  cases p <;> simp [Part.Same]

theorem State.push_changesOnly (v : Byte) (s : State) : ChangesOnly [.sp, .mem] s (s.push v) := by
  intro p
  cases p <;> simp [Part.Same]

theorem State.pop_changesOnly (s : State) : ChangesOnly [.sp] s s.pop := by
  intro p
  cases p <;> simp [Part.Same]

theorem State.setNZ_changesOnly (r : Byte) (s : State) : ChangesOnly [.n, .z] s (s.setNZ r) := by
  intro p
  cases p <;> simp [Part.Same]

theorem State.unpackP_changesOnly (q : Byte) (s : State) :
    ChangesOnly [.n, .v, .b, .d, .i, .z, .c] s (s.unpackP q) := by
  intro p
  cases p <;> simp [Part.Same]

theorem setA_changesOnly (r : Byte) (s : State) : ChangesOnly [.a] s { s with a := r } := by
  intro p
  cases p <;> simp [Part.Same]

theorem setSp_changesOnly (r : Byte) (s : State) : ChangesOnly [.sp] s { s with sp := r } := by
  intro p
  cases p <;> simp [Part.Same]

theorem setC_changesOnly (flag : Bool) (s : State) : ChangesOnly [.c] s { s with c := flag } := by
  intro p
  cases p <;> simp [Part.Same]

theorem setD_changesOnly (flag : Bool) (s : State) : ChangesOnly [.d] s { s with d := flag } := by
  intro p
  cases p <;> simp [Part.Same]

theorem setI_changesOnly (flag : Bool) (s : State) : ChangesOnly [.i] s { s with i := flag } := by
  intro p
  cases p <;> simp [Part.Same]

theorem setV_changesOnly (flag : Bool) (s : State) : ChangesOnly [.v] s { s with v := flag } := by
  intro p
  cases p <;> simp [Part.Same]

theorem loadA_changesOnly (r : Byte) (s : State) : ChangesOnly [.a, .n, .z] s (loadA r s) := by
  intro p
  cases p <;> simp [Part.Same]

theorem loadX_changesOnly (r : Byte) (s : State) : ChangesOnly [.x, .n, .z] s (loadX r s) := by
  intro p
  cases p <;> simp [Part.Same]

theorem loadY_changesOnly (r : Byte) (s : State) : ChangesOnly [.y, .n, .z] s (loadY r s) := by
  intro p
  cases p <;> simp [Part.Same]

theorem bitTest_changesOnly (v : Byte) (s : State) : ChangesOnly [.n, .v, .z] s (bitTest v s) := by
  intro p
  cases p <;> simp [Part.Same]

theorem compareWith_changesOnly (register : State → Byte) (v : Byte) (s : State) :
    ChangesOnly [.n, .z, .c] s (compareWith register v s) := by
  intro p
  cases p <;> simp [Part.Same]

theorem addWithCarry_changesOnly (v : Byte) (s : State) :
    ChangesOnly [.a, .n, .v, .z, .c] s (addWithCarry v s) := by
  intro p
  cases p <;> simp [Part.Same, addWithCarry]

/-- Under this machine's parameters SBC leaves N and V (R113). -/
theorem subtractWithBorrow_changesOnly (v : Byte) (s : State) :
    ChangesOnly [.a, .z, .c] s (subtractWithBorrow config v s) := by
  intro p
  cases p <;> simp [Part.Same, subtractWithBorrow, config]

/-- A branch changes PC alone, taken or not (R150). -/
theorem branch_changesOnly (taken : Bool) (w : Word) (s : State) :
    ChangesOnly [.pc] s (if taken then s.jump w else s) := by
  cases taken with
  | true => exact s.jump_changesOnly w
  | false => exact (ChangesOnly.refl s).mono (by simp)

theorem State.pushWord_changesOnly (w : Word) (s : State) : ChangesOnly [.sp, .mem] s (s.pushWord w) :=
  ((s.push_changesOnly (hi w)).trans (State.push_changesOnly (lo w) _)).mono (by simp)

theorem takeTrap_changesOnly (cfg : Config) (s : State) :
    ChangesOnly [.pc, .sp, .b, .mem] s (takeTrap cfg s) := by
  intro p
  cases p <;> simp [Part.Same, takeTrap, State.pushWord]

theorem returnFromTrap_changesOnly (s : State) :
    ChangesOnly [.pc, .sp, .n, .v, .b, .d, .i, .z, .c] s (returnFromTrap s) := by
  intro p
  cases p <;> simp [Part.Same, returnFromTrap]

/-- A shift, rotate, increment or decrement leaves its result beside a state with new flags only; the
result then goes to A or to memory (R130). -/
def FlagsOnly (flags : List Part) (f : Byte → State → Byte × State) : Prop :=
  ∀ v s, ChangesOnly flags s (f v s).2

theorem FlagsOnly.intoA {flags : List Part} {f : Byte → State → Byte × State} (hf : FlagsOnly flags f)
    (v : Byte) (s : State) : ChangesOnly (flags ++ [.a]) s { (f v s).2 with a := (f v s).1 } :=
  (hf v s).trans (setA_changesOnly _ _)

theorem FlagsOnly.intoMemory {flags : List Part} {f : Byte → State → Byte × State} (hf : FlagsOnly flags f)
    (v : Byte) (addr : Word) (s : State) :
    ChangesOnly (flags ++ [.mem]) s ((f v s).2.write addr (f v s).1) :=
  (hf v s).trans (State.write_changesOnly _ _ _)

theorem shiftLeft_flagsOnly : FlagsOnly [.n, .z, .c] shiftLeft := by
  intro v s p
  cases p <;> simp [Part.Same, shiftLeft]

theorem shiftRight_flagsOnly : FlagsOnly [.n, .z, .c] shiftRight := by
  intro v s p
  cases p <;> simp [Part.Same, shiftRight]

theorem rotateLeft_flagsOnly : FlagsOnly [.n, .z, .c] rotateLeft := by
  intro v s p
  cases p <;> simp [Part.Same, rotateLeft]

theorem rotateRight_flagsOnly : FlagsOnly [.n, .z, .c] rotateRight := by
  intro v s p
  cases p <;> simp [Part.Same, rotateRight]

theorem increment_flagsOnly : FlagsOnly [.n, .z] increment :=
  fun v s => s.setNZ_changesOnly (v + 1#8)

theorem decrement_flagsOnly : FlagsOnly [.n, .z] decrement :=
  fun v s => s.setNZ_changesOnly (v - 1#8)

/-- The pulls and the jump of RTS (R161). -/
theorem pullWord_jump_changesOnly (w : Word) (s : State) : ChangesOnly [.sp, .pc] s (s.pop.pop.jump w) := by
  intro p
  cases p <;> simp [Part.Same]

/-! The effect classes. -/

/-- The instructions by what they may write. -/
inductive EffectClass where
  | add | subtract | intoA | intoX | intoY | store | shiftA | shiftMemory | compare | countMemory | bitTest
  | carry | decimal | interrupt | overflow | jump | call | callReturn | trapReturn | push | pullA | pullFlags
  | trap | stackPointer | nothing
  deriving DecidableEq

/-- Every class, in the order of the definition. -/
def EffectClass.all : List EffectClass :=
  [.add, .subtract, .intoA, .intoX, .intoY, .store, .shiftA, .shiftMemory, .compare, .countMemory, .bitTest,
   .carry, .decimal, .interrupt, .overflow, .jump, .call, .callReturn, .trapReturn, .push, .pullA, .pullFlags,
   .trap, .stackPointer, .nothing]

theorem EffectClass.mem_all (κ : EffectClass) : κ ∈ EffectClass.all := by cases κ <;> decide

/-- The opcode bytes of the class (R74). -/
def EffectClass.opcodes : EffectClass → List Byte
  | .add => adcForms.map Form.opcode
  | .subtract => sbcForms.map Form.opcode
  | .intoA => (andForms ++ oraForms ++ eorForms ++ ldaForms).map Form.opcode ++ [0x8A, 0x98]
  | .intoX => ldxForms.map Form.opcode ++ [0xAA, 0xBA, 0xE8, 0xCA]
  | .intoY => ldyForms.map Form.opcode ++ [0xA8, 0xC8, 0x88]
  | .store => (staForms ++ stxForms ++ styForms).map Form.opcode
  | .shiftA => [0x0A, 0x4A, 0x2A, 0x6A]
  | .shiftMemory => (aslForms ++ lsrForms ++ rolForms ++ rorForms).map Form.opcode
  | .compare => (cmpForms ++ cpxForms ++ cpyForms).map Form.opcode
  | .countMemory => (incForms ++ decForms).map Form.opcode
  | .bitTest => bitForms.map Form.opcode
  | .carry => [0x18, 0x38]
  | .decimal => [0xD8, 0xF8]
  | .interrupt => [0x58, 0x78]
  | .overflow => [0xB8]
  | .jump => [0x90, 0xB0, 0xF0, 0xD0, 0x10, 0x30, 0x50, 0x70, 0x4C, 0x6C]
  | .call => [0x20]
  | .callReturn => [0x60]
  | .trapReturn => [0x40]
  | .push => [0x48, 0x08]
  | .pullA => [0x68]
  | .pullFlags => [0x28]
  | .trap => [0x00]
  | .stackPointer => [0x9A]
  | .nothing => [0xEA]

/-- The parts of the state the class may write (R28, R39), PC being listed when the instruction does not
leave it just past its own bytes. -/
def EffectClass.writes : EffectClass → List Part
  | .add => [.a, .n, .v, .z, .c]
  | .subtract => [.a, .z, .c]
  | .intoA => [.a, .n, .z]
  | .intoX => [.x, .n, .z]
  | .intoY => [.y, .n, .z]
  | .store => [.mem]
  | .shiftA => [.n, .z, .c, .a]
  | .shiftMemory => [.n, .z, .c, .mem]
  | .compare => [.n, .z, .c]
  | .countMemory => [.n, .z, .mem]
  | .bitTest => [.n, .v, .z]
  | .carry => [.c]
  | .decimal => [.d]
  | .interrupt => [.i]
  | .overflow => [.v]
  | .jump => [.pc]
  | .call => [.sp, .mem, .pc]
  | .callReturn => [.sp, .pc]
  | .trapReturn => [.pc, .sp, .n, .v, .b, .d, .i, .z, .c]
  | .push => [.sp, .mem]
  | .pullA => [.sp, .a, .n, .z]
  | .pullFlags => [.sp, .n, .v, .b, .d, .i, .z, .c]
  | .trap => [.pc, .sp, .b, .mem]
  | .stackPointer => [.sp]
  | .nothing => []

theorem opcodeIn_iff_mem {i : Instr} {op : Byte} (hop : (encode i).head? = some op) (ops : List Byte) :
    opcodeIn i ops ↔ op ∈ ops := by
  simp [opcodeIn, hop]

theorem exists_opcode_of_opcodeIn {i : Instr} {ops : List Byte} (h : opcodeIn i ops) :
    ∃ op ∈ ops, (encode i).head? = some op := by
  obtain ⟨op, hmem, hop⟩ := List.mem_map.mp h
  exact ⟨op, hmem, hop.symm⟩

/-- The instruction completes in every state, and beside moving PC past its bytes it changes only what
the class writes. -/
def EffectClass.Covers (κ : EffectClass) (i : Instr) : Prop :=
  opcodeIn i κ.opcodes ∧
  ∀ s, ∃ t, exec i s = .next t ∧ ChangesOnly κ.writes (s.advance (encode i).length) t

/-- A class covers an instruction whose opcode and whose next state it fits. -/
theorem exists_covers (κ : EffectClass) {i : Instr} {op : Byte} {f : State → State}
    (hop : (encode i).head? = some op) (hmem : op ∈ κ.opcodes) (hexec : ∀ s, exec i s = .next (f s))
    (hf : ∀ s, ChangesOnly κ.writes (s.advance (encode i).length) (f s)) : ∃ κ, EffectClass.Covers κ i :=
  ⟨κ, (opcodeIn_iff_mem hop _).mpr hmem, fun s => ⟨f s, hexec s, hf s⟩⟩

/-- One class for every instruction: the case lists are its rows of the opcode table, and the fact named
says what the operation those rows share may change. -/
theorem exists_effectClass (i : Instr) : ∃ κ : EffectClass, κ.Covers i := by
  cases i
  case adcImm | adcZp | adcZpx | adcAbs | adcAbx | adcAby | adcIzx | adcIzy =>
    exact exists_covers .add rfl (by decide) (fun _ => rfl) fun _ => addWithCarry_changesOnly _ _
  case sbcImm | sbcZp | sbcZpx | sbcAbs | sbcAbx | sbcAby | sbcIzx | sbcIzy =>
    exact exists_covers .subtract rfl (by decide) (fun _ => rfl) fun _ => subtractWithBorrow_changesOnly _ _
  case andImm | andZp | andZpx | andAbs | andAbx | andAby | andIzx | andIzy | oraImm | oraZp | oraZpx |
      oraAbs | oraAbx | oraAby | oraIzx | oraIzy | eorImm | eorZp | eorZpx | eorAbs | eorAbx | eorAby |
      eorIzx | eorIzy | ldaImm | ldaZp | ldaZpx | ldaAbs | ldaAbx | ldaAby | ldaIzx | ldaIzy | txa |
      tya =>
    exact exists_covers .intoA rfl (by decide) (fun _ => rfl) fun _ => loadA_changesOnly _ _
  case ldxImm | ldxZp | ldxZpy | ldxAbs | ldxAby | tax | tsx | inx | dex =>
    exact exists_covers .intoX rfl (by decide) (fun _ => rfl) fun _ => loadX_changesOnly _ _
  case ldyImm | ldyZp | ldyZpx | ldyAbs | ldyAbx | tay | iny | dey =>
    exact exists_covers .intoY rfl (by decide) (fun _ => rfl) fun _ => loadY_changesOnly _ _
  case staZp | staZpx | staAbs | staAbx | staAby | staIzx | staIzy | stxZp | stxZpy | stxAbs | styZp |
      styZpx | styAbs =>
    exact exists_covers .store rfl (by decide) (fun _ => rfl) fun _ => State.write_changesOnly _ _ _
  case aslAcc =>
    exact exists_covers .shiftA rfl (by decide) (fun _ => rfl) fun _ => shiftLeft_flagsOnly.intoA _ _
  case lsrAcc =>
    exact exists_covers .shiftA rfl (by decide) (fun _ => rfl) fun _ => shiftRight_flagsOnly.intoA _ _
  case rolAcc =>
    exact exists_covers .shiftA rfl (by decide) (fun _ => rfl) fun _ => rotateLeft_flagsOnly.intoA _ _
  case rorAcc =>
    exact exists_covers .shiftA rfl (by decide) (fun _ => rfl) fun _ => rotateRight_flagsOnly.intoA _ _
  case aslZp | aslZpx | aslAbs | aslAbx =>
    exact exists_covers .shiftMemory rfl (by decide) (fun _ => rfl)
      fun _ => shiftLeft_flagsOnly.intoMemory _ _ _
  case lsrZp | lsrZpx | lsrAbs | lsrAbx =>
    exact exists_covers .shiftMemory rfl (by decide) (fun _ => rfl)
      fun _ => shiftRight_flagsOnly.intoMemory _ _ _
  case rolZp | rolZpx | rolAbs | rolAbx =>
    exact exists_covers .shiftMemory rfl (by decide) (fun _ => rfl)
      fun _ => rotateLeft_flagsOnly.intoMemory _ _ _
  case rorZp | rorZpx | rorAbs | rorAbx =>
    exact exists_covers .shiftMemory rfl (by decide) (fun _ => rfl)
      fun _ => rotateRight_flagsOnly.intoMemory _ _ _
  case incZp | incZpx | incAbs | incAbx =>
    exact exists_covers .countMemory rfl (by decide) (fun _ => rfl)
      fun _ => increment_flagsOnly.intoMemory _ _ _
  case decZp | decZpx | decAbs | decAbx =>
    exact exists_covers .countMemory rfl (by decide) (fun _ => rfl)
      fun _ => decrement_flagsOnly.intoMemory _ _ _
  case cmpImm | cmpZp | cmpZpx | cmpAbs | cmpAbx | cmpAby | cmpIzx | cmpIzy | cpxImm | cpxZp | cpxAbs |
      cpyImm | cpyZp | cpyAbs =>
    exact exists_covers .compare rfl (by decide) (fun _ => rfl) fun _ => compareWith_changesOnly _ _ _
  case bitZp | bitAbs =>
    exact exists_covers .bitTest rfl (by decide) (fun _ => rfl) fun _ => bitTest_changesOnly _ _
  case clc | sec =>
    exact exists_covers .carry rfl (by decide) (fun _ => rfl) fun _ => setC_changesOnly _ _
  case cld | sed =>
    exact exists_covers .decimal rfl (by decide) (fun _ => rfl) fun _ => setD_changesOnly _ _
  case cli | sei =>
    exact exists_covers .interrupt rfl (by decide) (fun _ => rfl) fun _ => setI_changesOnly _ _
  case clv =>
    exact exists_covers .overflow rfl (by decide) (fun _ => rfl) fun _ => setV_changesOnly _ _
  case bcc | bcs | beq | bne | bpl | bmi | bvc | bvs =>
    exact exists_covers .jump rfl (by decide) (fun _ => rfl) fun _ => branch_changesOnly _ _ _
  case jmpAbs | jmpInd =>
    exact exists_covers .jump rfl (by decide) (fun _ => rfl) fun _ => State.jump_changesOnly _ _
  case jsr =>
    exact exists_covers .call rfl (by decide) (fun _ => rfl)
      fun _ => (State.pushWord_changesOnly _ _).trans (State.jump_changesOnly _ _)
  case rts =>
    exact exists_covers .callReturn rfl (by decide) (fun _ => rfl) fun _ => pullWord_jump_changesOnly _ _
  case rti =>
    exact exists_covers .trapReturn rfl (by decide) (fun _ => rfl) fun _ => returnFromTrap_changesOnly _
  case pha | php =>
    exact exists_covers .push rfl (by decide) (fun _ => rfl) fun _ => State.push_changesOnly _ _
  case pla =>
    exact exists_covers .pullA rfl (by decide) (fun _ => rfl)
      fun _ => (State.pop_changesOnly _).trans (loadA_changesOnly _ _)
  case plp =>
    exact exists_covers .pullFlags rfl (by decide) (fun _ => rfl)
      fun _ => (State.pop_changesOnly _).trans (State.unpackP_changesOnly _ _)
  case brk =>
    exact exists_covers .trap rfl (by decide) (fun _ => rfl) fun _ => takeTrap_changesOnly _ _
  case txs =>
    exact exists_covers .stackPointer rfl (by decide) (fun _ => rfl) fun _ => setSp_changesOnly _ _
  case nop =>
    exact exists_covers .nothing rfl (by decide) (fun _ => rfl) fun _ => ChangesOnly.refl _

/-- The byte is in the list. The two are compared as numbers, which the kernel does fast. -/
def listed (ops : List Byte) (op : Byte) : Bool := ops.any fun o => Nat.beq o.toNat op.toNat

theorem listed_iff_mem {ops : List Byte} {op : Byte} : listed ops op = true ↔ op ∈ ops := by
  simp [listed, BitVec.toNat_inj]

/-- The test passes for the opcodes of every class that writes the part. -/
def everyWriter (p : Part) (test : Byte → Bool) : Bool :=
  EffectClass.all.all fun κ => !κ.writes.contains p || κ.opcodes.all test

/-- When a part differs after an instruction, its opcode is that of a class that writes the part. -/
theorem exists_passing_opcode_of_changed {p : Part} {test : Byte → Bool} (hwriters : everyWriter p test = true)
    {i : Instr} {s t : State} (h : exec i s = .next t) (hne : ¬p.Same (s.advance (encode i).length) t) :
    ∃ op, (encode i).head? = some op ∧ test op = true := by
  obtain ⟨κ, hop, hcovers⟩ := exists_effectClass i
  obtain ⟨u, hu, hchanges⟩ := hcovers s
  obtain rfl : u = t := by simpa [hu] using h
  have hwrites : p ∈ κ.writes := (hchanges p).resolve_right hne
  obtain ⟨op, hmem, hhead⟩ := exists_opcode_of_opcodeIn hop
  refine ⟨op, hhead, ?_⟩
  have hclass := List.all_eq_true.mp hwriters κ κ.mem_all
  rw [List.contains_iff_mem.mpr hwrites] at hclass
  exact List.all_eq_true.mp hclass op hmem

/-- When every opcode that can change the part is listed, an instruction that changes it is. -/
theorem opcodeIn_of_changed (p : Part) {ops : List Byte} (hwriters : everyWriter p (listed ops) = true)
    {i : Instr} {s t : State} (h : exec i s = .next t) (hne : ¬p.Same (s.advance (encode i).length) t) :
    opcodeIn i ops := by
  obtain ⟨op, hhead, hlisted⟩ := exists_passing_opcode_of_changed hwriters h hne
  exact (opcodeIn_iff_mem hhead ops).mpr (listed_iff_mem.mp hlisted)

/-- When no opcode that can change the part is listed, an instruction that changes it is not. -/
theorem not_opcodeIn_of_changed (p : Part) {ops : List Byte}
    (hwriters : everyWriter p (fun op => !listed ops op) = true) {i : Instr} {s t : State}
    (h : exec i s = .next t) (hne : ¬p.Same (s.advance (encode i).length) t) : ¬opcodeIn i ops := by
  obtain ⟨op, hhead, hfree⟩ := exists_passing_opcode_of_changed hwriters h hne
  rw [opcodeIn_iff_mem hhead, ← listed_iff_mem]
  simpa using hfree

/-- Settles O55: the classes that write PC are those of the listed opcodes. -/
theorem pcPassesTheInstructionUnlessItTransfersControl :
    Obligations.PcPassesTheInstructionUnlessItTransfersControl := fun _ _ _ h hnot =>
  not_not.mp fun hne => hnot (opcodeIn_of_changed .pc (by decide) h hne)

/-- Settles O56: each clause compares its list with the classes that write the flag. -/
theorem onlyListedInstructionsWriteFlags : Obligations.OnlyListedInstructionsWriteFlags := fun _ _ _ h =>
  ⟨opcodeIn_of_changed .d (by decide) h, opcodeIn_of_changed .i (by decide) h,
   opcodeIn_of_changed .b (by decide) h, opcodeIn_of_changed .v (by decide) h,
   opcodeIn_of_changed .c (by decide) h, not_opcodeIn_of_changed .n (by decide) h,
   not_opcodeIn_of_changed .z (by decide) h⟩

/-- Settles O57: each clause compares its list with the classes that write the register or the store. -/
theorem onlyListedInstructionsWriteRegistersAndMemory :
    Obligations.OnlyListedInstructionsWriteRegistersAndMemory := fun _ _ _ h =>
  ⟨opcodeIn_of_changed .a (by decide) h, opcodeIn_of_changed .x (by decide) h,
   opcodeIn_of_changed .y (by decide) h, opcodeIn_of_changed .sp (by decide) h,
   opcodeIn_of_changed .mem (by decide) h⟩

end Sys2Proof.Machine
end

section
/-! SUPPORT. The stack lies in page 1 (R23, R68): what pushes, the call and the trap do to memory outside
it. -/

namespace Sys2Proof.Machine

open Claims

/-- The address is one of the 256 locations of page 1. -/
def InPageOne (addr : Word) : Prop := 0x0100 ≤ addr.toNat ∧ addr.toNat ≤ 0x01FF

theorem stackAddr_inPageOne (sp : Byte) : InPageOne (stackAddr sp) := by
  have := sp.isLt
  rw [InPageOne, stackAddr_toNat]
  omega

/-- Outside page 1 the two states hold the same bytes. -/
def SameOutsidePageOne (s t : State) : Prop := ∀ addr, ¬InPageOne addr → t.read addr = s.read addr

theorem SameOutsidePageOne.trans {s t u : State} (hst : SameOutsidePageOne s t)
    (htu : SameOutsidePageOne t u) : SameOutsidePageOne s u :=
  fun addr hout => (htu addr hout).trans (hst addr hout)

theorem State.push_sameOutsidePageOne (v : Byte) (s : State) : SameOutsidePageOne s (s.push v) := by
  intro addr hout
  have hne : addr ≠ stackAddr s.sp := fun h => hout (h ▸ stackAddr_inPageOne s.sp)
  rw [State.read_push, if_neg hne]

theorem State.pushWord_sameOutsidePageOne (w : Word) (s : State) : SameOutsidePageOne s (s.pushWord w) :=
  (s.push_sameOutsidePageOne (hi w)).trans (State.push_sameOutsidePageOne (lo w) _)

theorem takeTrap_sameOutsidePageOne (cfg : Config) (s : State) : SameOutsidePageOne s (takeTrap cfg s) :=
  (s.pushWord_sameOutsidePageOne s.pc).trans (State.push_sameOutsidePageOne _ _)

/-- The four opcodes are those of PHA, PHP, JSR and BRK. -/
theorem eq_stackWriter_of_opcodeIn {i : Instr} (h : opcodeIn i [0x48, 0x08, 0x20, 0x00]) :
    i = .pha ∨ i = .php ∨ (∃ w, i = .jsr w) ∨ i = .brk := by
  cases i
  case pha | php | jsr | brk => simp
  all_goals exact absurd ((opcodeIn_iff_mem rfl _).mp h) (by decide)

theorem exec_stackWriter_sameOutsidePageOne {i : Instr} (h : opcodeIn i [0x48, 0x08, 0x20, 0x00]) (s : State) :
    ∃ t, exec i s = .next t ∧ SameOutsidePageOne s t := by
  rcases eq_stackWriter_of_opcodeIn h with rfl | rfl | ⟨w, rfl⟩ | rfl
  · exact ⟨_, rfl, State.push_sameOutsidePageOne _ (s.advance 1)⟩
  · exact ⟨_, rfl, State.push_sameOutsidePageOne _ (s.advance 1)⟩
  · exact ⟨_, rfl, State.pushWord_sameOutsidePageOne _ (s.advance 3)⟩
  · exact ⟨_, rfl, takeTrap_sameOutsidePageOne _ (s.advance 1)⟩

/-- Settles O58: a byte that differs is in page 1, since outside it nothing does. -/
theorem stackWritesStayInPageOne : Obligations.StackWritesStayInPageOne := by
  intro i s t hop h addr hdiffers
  obtain ⟨u, hu, hsame⟩ := exec_stackWriter_sameOutsidePageOne hop s
  obtain rfl : u = t := by simpa [hu] using h
  exact not_not.mp fun hout => hdiffers (hsame addr hout)

end Sys2Proof.Machine
end

section
/-! SUPPORT. B, D and I steer nothing (R35, R78, R206): an instruction run with other values of the three
flags ends in the same state but for those flags. -/

namespace Sys2Proof.Machine

open Claims

/-- The state with other values of B, D and I. -/
def State.withBDI (b d i : Bool) (s : State) : State := { s with b := b, d := d, i := i }

@[simp] theorem State.withBDI_self (s : State) : s.withBDI s.b s.d s.i = s := rfl

/-- A flag after two runs that were given `before` and `given`: the runs agree on it, or each kept its
own. -/
def AgreesOrKept (before given afterFirst afterSecond : Bool) : Prop :=
  afterSecond = afterFirst ∨ (afterSecond = given ∧ afterFirst = before)

/-- Whatever B, D and I are beforehand, the instruction ends in the same state but for the three. -/
def NotSteeredByBDI (i : Instr) : Prop :=
  ∀ (s t : State) (b d e : Bool), exec i s = .next t →
    ∃ u, exec i (s.withBDI b d e) = .next u ∧ u.withBDI t.b t.d t.i = t ∧
      AgreesOrKept s.b b t.b u.b ∧ AgreesOrKept s.d d t.d u.d ∧ AgreesOrKept s.i e t.i u.i

/-- The instruction carries B, D and I through: run with other values, it ends in its own state with
those values. -/
def CarriesBDI (i : Instr) : Prop :=
  ∀ (s t : State) (b d e : Bool), exec i s = .next t →
    exec i (s.withBDI b d e) = .next (t.withBDI b d e)

/-- What carries the flags through keeps them: put in the values they have. -/
theorem CarriesBDI.keeps {i : Instr} (hi : CarriesBDI i) {s t : State} (h : exec i s = .next t) :
    t.b = s.b ∧ t.d = s.d ∧ t.i = s.i := by
  have hsame := hi s t s.b s.d s.i h
  rw [State.withBDI_self, h, Host.Outcome.next.injEq] at hsame
  rw [hsame]
  exact ⟨rfl, rfl, rfl⟩

theorem CarriesBDI.notSteered {i : Instr} (hi : CarriesBDI i) : NotSteeredByBDI i := by
  intro s t b d e h
  obtain ⟨hb, hd, he⟩ := hi.keeps h
  exact ⟨_, hi s t b d e h, rfl, .inr ⟨rfl, hb⟩, .inr ⟨rfl, hd⟩, .inr ⟨rfl, he⟩⟩

theorem CarriesBDI.of_exec {i : Instr} {f : State → State} (hexec : ∀ s, exec i s = .next (f s))
    (hf : ∀ (s : State) (b d e : Bool), f (s.withBDI b d e) = (f s).withBDI b d e) : CarriesBDI i := by
  intro s t b d e h
  obtain rfl : f s = t := by simpa [hexec] using h
  rw [hexec, hf]

/-- The flags go through a choice that is made alike in both runs. -/
theorem withBDI_ite (cond : Bool) (b d e : Bool) (s t : State) :
    (if cond then s else t).withBDI b d e = if cond then s.withBDI b d e else t.withBDI b d e :=
  apply_ite (State.withBDI b d e) _ s t

/-- PHP and BRK push the three flags. PLP, RTI, CLD, SED, CLI and SEI overwrite some of them. No other
instruction reads or writes them, so the rest carry them through. -/
theorem notSteeredByBDI {i : Instr} (hnot : ¬opcodeIn i [0x08, 0x00]) : NotSteeredByBDI i := by
  cases i
  case php | brk => exact absurd ((opcodeIn_iff_mem rfl _).mpr (by decide)) hnot
  case plp | rti =>
    intro s t b d e h
    cases h
    exact ⟨_, rfl, rfl, .inl rfl, .inl rfl, .inl rfl⟩
  case cld | sed =>
    intro s t b d e h
    cases h
    exact ⟨_, rfl, rfl, .inr ⟨rfl, rfl⟩, .inl rfl, .inr ⟨rfl, rfl⟩⟩
  case cli | sei =>
    intro s t b d e h
    cases h
    exact ⟨_, rfl, rfl, .inr ⟨rfl, rfl⟩, .inr ⟨rfl, rfl⟩, .inl rfl⟩
  case bcc | bcs | beq | bne | bpl | bmi | bvc | bvs =>
    exact CarriesBDI.notSteered (.of_exec (fun _ => rfl) fun _ b d e => Eq.symm (withBDI_ite _ b d e _ _))
  all_goals exact CarriesBDI.notSteered (.of_exec (fun _ => rfl) fun _ _ _ _ => rfl)

/-- Settles O59: no instruction but the two excluded is steered by B, D and I. -/
theorem breakDecimalInterruptFlagsSteerNothing : Obligations.BreakDecimalInterruptFlagsSteerNothing :=
  fun _ s t b d e hnot h => notSteeredByBDI hnot s t b d e h

end Sys2Proof.Machine
end

section
/-! SUPPORT. The placed word (R65, R70, R83): a step fetches what was stored at PC before it. -/

namespace Sys2Proof.Machine

/-- A fetch sees the bytes placed at PC: its three addresses differ, also across the top of memory (R83). -/
theorem fetchBytes_placeBytes (b0 b1 b2 : Byte) (s : State) :
    fetchBytes (placeBytes [b0, b1, b2] s.pc s) = [b0, b1, b2] := by
  have h01 : s.pc ≠ s.pc + 1#16 := by bv_omega
  have h02 : s.pc ≠ s.pc + 1#16 + 1#16 := by bv_omega
  have h12 : s.pc + 1#16 ≠ s.pc + 1#16 + 1#16 := by bv_omega
  have htwo : s.pc + 2#16 = s.pc + 1#16 + 1#16 := by bv_omega
  simp only [fetchBytes, placeBytes, State.write_pc, State.read_write, htwo, h01, h02, h12, if_true, if_false]

theorem fetchBytes_withFetchWord (nbits w : Nat) (s : State) :
    fetchBytes (s.withFetchWord nbits w) = tableBytes nbits w := fetchBytes_placeBytes ..

theorem decodeTableWord_eq_some_iff {nbits w : Nat} {i : Instr} :
    decodeTableWord nbits w = some i ↔ ∃ rest, decode (tableBytes nbits w) = .ok (i, rest) := by
  unfold decodeTableWord
  cases decode (tableBytes nbits w) with
  | ok decoded => simp [Prod.ext_iff]
  | error e => simp

/-- Settles O8: the fetch sees the word's bytes, which decode to the instruction, and the step runs what it
decodes. -/
theorem placedWordIsRunNext : Obligations.PlacedWordIsRunNext := by
  intro s nbits w i hword
  obtain ⟨rest, hdecode⟩ := decodeTableWord_eq_some_iff.mp hword
  rw [← fetchBytes_withFetchWord nbits w s] at hdecode
  exact stepRunsDecodedInstruction _ i rest hdecode

/-- Settles O16: the byte at the next opcode address is read back as it was written. -/
theorem storeIsSeenByTheNextFetch : Obligations.StoreIsSeenByTheNextFetch := fun s =>
  ⟨(s.advance 3).write (s.pc + 3#16) s.a, rfl, rfl, congrArg some (Memory.read_write_same _ _ _)⟩

end Sys2Proof.Machine
end

section
/-! SUPPORT. The accesses of R64 against the meanings: an instruction first reads its own bytes, then makes
at most five more accesses, and these, made one at a time, leave the memory its meaning leaves. Each step
therefore changes memory by single-byte writes alone, which keep the canonical form. -/

namespace Sys2Proof.Machine

theorem replay_append (first rest : List Access) (m : Memory) :
    replay (first ++ rest) m = (replay first m).bind (replay rest) := by
  induction first generalizing m with
  | nil => rfl
  | cons access first ih =>
    cases access with
    | read a v =>
      simp only [List.cons_append, replay, ih]
      split <;> rfl
    | write a v => exact ih (m.write a v)

/-- Reads of what memory holds go through and change nothing (R52). -/
theorem replay_readsAt (s : State) (addrs : List Word) :
    replay (readsAt s addrs) s.mem = some s.mem := by
  induction addrs with
  | nil => rfl
  | cons a addrs ih => simpa [readsAt, replay, State.read] using ih

theorem replay_readsAt_append (s : State) (addrs : List Word) (rest : List Access) :
    replay (readsAt s addrs ++ rest) s.mem = replay rest s.mem := by
  rw [replay_append, replay_readsAt, Option.bind_some]

/-- Accesses keep the canonical form, as each single-byte write does. -/
theorem replay_keeps_wf {accs : List Access} {m m' : Memory} (hm : m.wf) (h : replay accs m = some m') :
    m'.wf := by
  induction accs generalizing m with
  | nil =>
    cases h
    exact hm
  | cons access accs ih =>
    cases access with
    | read a v =>
      simp only [replay, Option.ite_none_right_eq_some] at h
      exact ih hm h.2
    | write a v => exact ih (Memory.wf_write a v hm) h

/-- The opcode is the first byte an instruction reads, at PC itself. -/
theorem instrReads_succ (n : Nat) (s : State) :
    ∃ operands, instrReads (n + 1) s = .read s.pc (s.read s.pc) :: operands ∧ operands.length = n := by
  refine ⟨readsAt s ((List.range n).map fun k => s.pc + BitVec.ofNat 16 (k + 1)), ?_, by simp [readsAt]⟩
  simp [instrReads, readsAt, List.range_succ_eq_map, Function.comp_def]

/-- The accesses read the `n + 1` bytes of an instruction at PC and then make at most `5 - n` others, which
take the memory of `s` to `m`. -/
def Traffic (s : State) (accs : List Access) (m : Memory) : Prop :=
  ∃ n rest, accs = instrReads (n + 1) s ++ rest ∧ n + rest.length ≤ 5 ∧ replay rest s.mem = some m

theorem Traffic.replay_eq {s : State} {accs : List Access} {m : Memory} (h : Traffic s accs m) :
    replay accs s.mem = some m := by
  obtain ⟨n, rest, rfl, -, hrest⟩ := h
  exact (replay_readsAt_append ..).trans hrest

theorem Traffic.head_read_and_length_le {s : State} {accs : List Access} {m : Memory} (h : Traffic s accs m) :
    accs.head? = some (.read s.pc (s.read s.pc)) ∧ accs.length ≤ 6 := by
  obtain ⟨n, rest, rfl, hlength, -⟩ := h
  obtain ⟨operands, hreads, rfl⟩ := instrReads_succ n s
  rw [hreads]
  simp only [List.cons_append, List.head?_cons, List.length_cons, List.length_append, true_and]
  omega

/-- The eight memory modes (R95 to R102). -/
inductive MemoryMode : Resolver → Prop
  | zp (z : Byte) : MemoryMode (zp z)
  | zpx (z : Byte) : MemoryMode (zpx z)
  | zpy (z : Byte) : MemoryMode (zpy z)
  | absolute (w : Word) : MemoryMode (absolute w)
  | abx (w : Word) : MemoryMode (abx w)
  | aby (w : Word) : MemoryMode (aby w)
  | izx (z : Byte) : MemoryMode (izx z)
  | izy (z : Byte) : MemoryMode (izy z)

/-- A mode reads at least one byte of the instruction, and at most four bytes before the data (R73, R101,
R102). -/
theorem MemoryMode.exists_length {mode : Resolver} (h : MemoryMode mode) (s : State) :
    ∃ n, mode.length = n + 1 ∧ n + (mode.pointer s).length ≤ 3 := by
  cases h with
  | zp | zpx | zpy => exact ⟨1, rfl, by simp [Machine.zp, Machine.zpx, Machine.zpy]⟩
  | absolute | abx | aby => exact ⟨2, rfl, by simp [Machine.absolute, Machine.abx, Machine.aby]⟩
  | izx | izy => exact ⟨1, rfl, by simp [Machine.izx, Machine.izy]⟩

/-- An instruction that reads and writes nothing beside its own bytes. -/
theorem traffic_instrReads {n : Nat} (hn : n ≤ 5) (s : State) : Traffic s (instrReads (n + 1) s) s.mem :=
  ⟨n, [], (List.append_nil _).symm, hn, rfl⟩

/-- An instruction's accesses in a memory mode: the mode's reads, then at most two at the data. -/
theorem traffic_operandReads {mode : Resolver} (hmode : MemoryMode mode) {s : State} {rest : List Access}
    {m : Memory} (hlength : rest.length ≤ 2) (hrest : replay rest s.mem = some m) :
    Traffic s (operandReads mode s ++ rest) m := by
  obtain ⟨n, hn, hpointer⟩ := hmode.exists_length s
  refine ⟨n, readsAt s (mode.pointer s) ++ rest, ?_, ?_, ?_⟩
  · rw [operandReads, hn, List.append_assoc]
  · simp only [List.length_append, readsAt, List.length_map]
    omega
  · rw [replay_readsAt_append, hrest]

theorem traffic_readAccesses {mode : Resolver} (hmode : MemoryMode mode) (s : State) :
    Traffic s (readAccesses mode s) s.mem :=
  traffic_operandReads hmode (by simp [readsAt]) (replay_readsAt ..)

theorem traffic_storeAccesses {mode : Resolver} (hmode : MemoryMode mode) (v : Byte) (s : State) :
    Traffic s (storeAccesses v mode s) (s.mem.write (mode.ea s) v) :=
  traffic_operandReads hmode (by simp) rfl

theorem traffic_modifyAccesses {mode : Resolver} (hmode : MemoryMode mode) (f : Byte → State → Byte × State)
    (s : State) :
    Traffic s (modifyAccesses f mode s) (s.mem.write (mode.ea s) (f (s.read (mode.ea s)) s).1) := by
  rw [modifyAccesses, readAccesses, List.append_assoc]
  exact traffic_operandReads hmode (by simp [readsAt]) (replay_readsAt_append ..)

/-- RTS, RTI, PLA, PLP (R27): the bytes pulled. -/
theorem traffic_popAccesses {k : Nat} (hk : k ≤ 5) (s : State) :
    Traffic s (instrReads 1 s ++ popAccesses k s) s.mem :=
  ⟨0, _, rfl, by simpa [popAccesses, readsAt] using hk, replay_readsAt ..⟩

theorem replay_pushWordAccesses (w : Word) (s : State) :
    replay (pushWordAccesses w s.sp) s.mem = some (s.pushWord w).mem := rfl

/-- BRK makes the pushes of `takeTrap`, then reads the vector as they left it. -/
theorem replay_trapAccesses (cfg : Config) (s : State) :
    replay (trapAccesses cfg s) s.mem = some (takeTrap cfg (s.advance 1)).mem := by
  have hsp : s.sp - 2#8 = s.sp - 1#8 - 1#8 := by bv_omega
  rw [trapAccesses, hsp]
  exact replay_readsAt (takeTrap cfg (s.advance 1)) [0xFFFE#16, 0xFFFF#16]

/-- A branch, taken or not, leaves memory alone. -/
theorem branch_mem (taken : Bool) (w : Word) (s : State) : (if taken then s.jump w else s).mem = s.mem :=
  (branch_changesOnly taken w s .mem).resolve_left (by decide)

/-- The instruction completes, and its accesses lead to the memory it leaves. -/
def TrafficLeadsToExec (i : Instr) (s : State) : Prop :=
  ∃ t, exec i s = .next t ∧ Traffic s (accesses i s) t.mem

/-- Every instruction's accesses account for its meaning. The cases follow the arms of `accesses`, by shape;
those left to the end read in a memory mode. -/
theorem trafficLeadsToExec (i : Instr) (s : State) : TrafficLeadsToExec i s := by
  cases i
  case aslAcc | lsrAcc | rolAcc | rorAcc | inx | iny | dex | dey | clc | cld | cli | clv | sec | sed | sei |
      tax | tay | tsx | txa | txs | tya | nop | adcImm | sbcImm | andImm | oraImm | eorImm | ldaImm |
      ldxImm | ldyImm | cmpImm | cpxImm | cpyImm | jmpAbs =>
    exact ⟨_, rfl, traffic_instrReads (by decide) s⟩
  case bcc | bcs | beq | bne | bpl | bmi | bvc | bvs =>
    refine ⟨_, rfl, ?_⟩
    rw [branch_mem]
    exact traffic_instrReads (by decide) s
  case staZp | staZpx | staAbs | staAbx | staAby | staIzx | staIzy | stxZp | stxZpy | stxAbs | styZp |
      styZpx | styAbs =>
    exact ⟨_, rfl, traffic_storeAccesses (by constructor) _ s⟩
  case aslZp | aslZpx | aslAbs | aslAbx | lsrZp | lsrZpx | lsrAbs | lsrAbx | rolZp | rolZpx | rolAbs |
      rolAbx | rorZp | rorZpx | rorAbs | rorAbx | incZp | incZpx | incAbs | incAbx | decZp | decZpx |
      decAbs | decAbx =>
    exact ⟨_, rfl, traffic_modifyAccesses (by constructor) _ s⟩
  case jmpInd => exact ⟨_, rfl, 2, _, rfl, by simp [readsAt], replay_readsAt ..⟩
  case jsr =>
    have hreturn : (s.advance 3).pc - 1#16 = s.pc + 2#16 := by rw [State.advance_pc]; bv_omega
    exact ⟨_, rfl, 2, _, rfl, by simp [pushWordAccesses], hreturn ▸ replay_pushWordAccesses _ (s.advance 3)⟩
  case rts | rti | pla | plp => exact ⟨_, rfl, traffic_popAccesses (by decide) s⟩
  case pha | php => exact ⟨_, rfl, 0, _, rfl, by simp, rfl⟩
  case brk =>
    exact ⟨_, rfl, 0, _, rfl, by simp [trapAccesses, pushWordAccesses, readsAt], replay_trapAccesses config s⟩
  all_goals exact ⟨_, rfl, traffic_readAccesses (by constructor) s⟩

/-- What a completed step is, with its accesses. -/
theorem step_next_traffic {s t : State} (h : step s = .next t) : Traffic s (stepAccesses s) t.mem := by
  obtain ⟨i, hfetch, hexec⟩ := step_next_inv h
  obtain ⟨u, hu, htraffic⟩ := trafficLeadsToExec i s
  obtain rfl : u = t := by simpa [hu] using hexec
  simpa only [stepAccesses, hfetch] using htraffic

/-- What a step that stops is: no instruction at PC, and the report of R201. -/
theorem step_fault_inv {s : State} {fault : Fault} (h : step s = .fault fault) :
    fault = .unknownOpcode (s.read s.pc) s.pc (s.advance 1) := by
  unfold step at h
  split at h
  next i _ =>
    obtain ⟨t, ht, -⟩ := trafficLeadsToExec i s
    simp [ht] at h
  next => exact (Host.Outcome.fault.inj h).symm

/-- Settles O14: the accesses of a completed step lead to its memory. -/
theorem accessesReplayToTheStep : Obligations.AccessesReplayToTheStep := fun _ _ h =>
  (step_next_traffic h).replay_eq

/-- Settles O15: what is fetched is executed, or the opcode read alone, and both read the opcode first. -/
theorem firstAccessIsTheOpcodeFetch : Obligations.FirstAccessIsTheOpcodeFetch := by
  intro s
  unfold stepAccesses
  split
  next i _ =>
    obtain ⟨t, -, htraffic⟩ := trafficLeadsToExec i s
    exact htraffic.head_read_and_length_le
  next => exact (traffic_instrReads (by decide) s).head_read_and_length_le

/-- Settles O11: a completed step changes memory by its accesses alone, and a report changes none. -/
theorem stepsKeepMemoryCanonical : Obligations.StepsKeepMemoryCanonical := by
  intro s hwf
  refine ⟨fun t h => replay_keeps_wf hwf (step_next_traffic h).replay_eq, fun op addr t h => ?_⟩
  cases step_fault_inv h
  exact hwf

end Sys2Proof.Machine
end

section
/-! SUPPORT. What a canonical store is: its members are its non-zero bytes, so what it reads determines it,
and the loaded image is one (R50, R52, R53). -/

namespace Sys2Proof.Machine

/-- A byte that does not read as zero is listed. -/
theorem Memory.mem_of_read_ne_zero {m : Memory} {a : Word} (h : m.read a ≠ 0#8) : (a.toNat, m.read a) ∈ m := by
  induction m with
  | nil => exact absurd rfl h
  | cons cell m ih =>
    simp only [Memory.read] at h ⊢
    split
    next hkey => simp [← hkey]
    next hkey => exact List.mem_cons_of_mem _ (ih (by simpa [hkey] using h))

/-- A listed byte is the one read at its address, as no address is listed twice. -/
theorem Memory.read_eq_of_mem {m : Memory} {a : Word} {v : Byte} (hsorted : m.Pairwise fun p q => p.1 < q.1)
    (h : (a.toNat, v) ∈ m) : m.read a = v := by
  induction m with
  | nil => cases h
  | cons cell m ih =>
    obtain ⟨hbelow, hsorted⟩ := List.pairwise_cons.mp hsorted
    rcases List.mem_cons.mp h with rfl | h
    · simp [Memory.read]
    · rw [Memory.read, if_neg (hbelow _ h).ne, ih hsorted h]

/-- A cell is listed exactly when its byte is not zero and is read at its address. -/
theorem Memory.mem_iff_of_wf {m : Memory} (hwf : m.wf) (cell : Host.Cell) :
    cell ∈ m ↔ cell.1 < 65536 ∧ cell.2 ≠ 0#8 ∧ m.read (BitVec.ofNat 16 cell.1) = cell.2 := by
  obtain ⟨k, v⟩ := cell
  have hkey : k < 65536 → (BitVec.ofNat 16 k).toNat = k := fun hk => by simpa using hk
  constructor
  · intro hmem
    obtain ⟨hk, hv⟩ := hwf.2 _ hmem
    exact ⟨hk, hv, Memory.read_eq_of_mem hwf.1 (by rwa [hkey hk])⟩
  · rintro ⟨hk, hv, hread⟩
    have hmem := Memory.mem_of_read_ne_zero (hread.trans_ne hv)
    rwa [hkey hk, hread] at hmem

/-- Settles O13: the two have the same members, and a list in rising order is determined by its members. -/
theorem canonicalMemoriesWithEqualBytesAreEqual : Obligations.CanonicalMemoriesWithEqualBytesAreEqual := by
  intro m m' hwf hwf' hread
  have hmem : ∀ cell, cell ∈ m ↔ cell ∈ m' := fun cell => by
    rw [Memory.mem_iff_of_wf hwf, Memory.mem_iff_of_wf hwf', hread]
  have : Std.Irrefl fun p q : Host.Cell => p.1 < q.1 := ⟨fun _ => lt_irrefl _⟩
  have : Std.Antisymm fun p q : Host.Cell => p.1 < q.1 := ⟨fun _ _ h h' => absurd h h'.asymm⟩
  exact hwf.1.eq_of_mem_iff hwf'.1 hmem

/-- What is loaded from address `k` lies from `k` upward, within the image's length, and is not zero. -/
theorem memoryFrom_bounds {k : Nat} {image : List Byte} {cell : Host.Cell} (h : cell ∈ memoryFrom k image) :
    k ≤ cell.1 ∧ cell.1 < k + image.length ∧ cell.2 ≠ 0#8 := by
  induction image generalizing k with
  | nil => cases h
  | cons v image ih =>
    have htail : cell ∈ memoryFrom (k + 1) image →
        k ≤ cell.1 ∧ cell.1 < k + (v :: image).length ∧ cell.2 ≠ 0#8 := fun hcell => by
      obtain ⟨hlow, hhigh, hv⟩ := ih hcell
      rw [List.length_cons]
      exact ⟨by omega, by omega, hv⟩
    simp only [memoryFrom] at h
    split at h
    next => exact htail h
    next hv =>
      rcases List.mem_cons.mp h with rfl | h
      · exact ⟨le_rfl, by simp, hv⟩
      · exact htail h

theorem memoryFrom_sorted (k : Nat) (image : List Byte) :
    (memoryFrom k image).Pairwise fun p q => p.1 < q.1 := by
  induction image generalizing k with
  | nil => exact List.Pairwise.nil
  | cons v image ih =>
    simp only [memoryFrom]
    split
    · exact ih (k + 1)
    · exact List.pairwise_cons.mpr ⟨fun cell hcell => (memoryFrom_bounds hcell).1, ih (k + 1)⟩

theorem memoryFrom_zero_wf {image : List Byte} (h : image.length ≤ 65536) : (memoryFrom 0 image).wf := by
  refine ⟨memoryFrom_sorted 0 image, fun cell hcell => ?_⟩
  obtain ⟨-, hhigh, hv⟩ := memoryFrom_bounds hcell
  exact ⟨by omega, hv⟩

/-- The loaded store reads byte `i` of the image at address `k + i`, and 0x00 everywhere else (R53). -/
theorem read_memoryFrom (k : Nat) (image : List Byte) (addr : Word) :
    (memoryFrom k image).read addr = if k ≤ addr.toNat then image.getD (addr.toNat - k) 0#8 else 0#8 := by
  induction image generalizing k with
  | nil => simp [memoryFrom, Memory.read]
  | cons v image ih =>
    have hcell : (memoryFrom k (v :: image)).read addr =
        if k = addr.toNat then v else (memoryFrom (k + 1) image).read addr := by
      rw [memoryFrom]
      split
      next hzero =>
        split
        next hkey => rw [ih, if_neg (by omega), hzero]
        next => rfl
      next => rfl
    rw [hcell, ih]
    rcases lt_trichotomy k addr.toNat with hlt | rfl | hgt
    · have hindex : addr.toNat - k = addr.toNat - (k + 1) + 1 := by omega
      rw [if_neg hlt.ne, if_pos (Nat.succ_le_of_lt hlt), if_pos hlt.le, hindex, List.getD_cons_succ]
    · simp
    · rw [if_neg hgt.ne', if_neg (by omega), if_neg (by omega)]

/-- A launch is the load and `Reset()` when the image fits, and fails when it does not (R221, R227). -/
theorem launch_eq_ite (p : PowerOn) (image : List Byte) :
    launch p image = if image.length ≤ 65536 then .ok (resetSequence (powerOn p (memoryFrom 0 image)))
      else .error .imageTooLarge := by
  unfold launch loadImage
  split_ifs <;> rfl

/-- Settles O12: the empty store is canonical, and so is the image that a launch loads. -/
theorem resetMemoryIsCanonical : Obligations.ResetMemoryIsCanonical := by
  refine ⟨Memory.wf_nil, fun p image s h => ?_⟩
  rw [launch_eq_ite] at h
  split at h
  next hfits =>
    cases h
    exact memoryFrom_zero_wf hfits
  next => cases h

theorem word_eq_ofNat (l h : Byte) : word l h = BitVec.ofNat 16 (l.toNat + 256 * h.toNat) := by
  apply BitVec.eq_of_toNat_eq
  have := l.isLt
  have := h.isLt
  rw [word_toNat, BitVec.toNat_ofNat]
  omega

/-- Settles O19: the launch's memory is the loaded image, from which `Reset()` takes PC. -/
theorem launchLoadsImageAndResets : Obligations.LaunchLoadsImageAndResets := by
  intro p image
  rw [launch_eq_ite]
  have hread (addr : Word) : (memoryFrom 0 image).read addr = image.getD addr.toNat 0#8 :=
    read_memoryFrom 0 image addr
  refine ⟨fun hfits => ⟨_, if_pos hfits, hread, ?_, rfl, rfl, rfl, rfl, rfl, rfl, rfl, rfl, rfl, rfl, rfl⟩,
    fun hlong => if_neg (by omega)⟩
  rw [resetSequence_pc, State.vector, word_eq_ofNat]
  exact congrArg₂ (fun l h : Byte => BitVec.ofNat 16 (l.toNat + 256 * h.toNat))
    (hread 0xFFFC#16) (hread 0xFFFD#16)

end Sys2Proof.Machine
end

section
/-! SUPPORT. The opcode table against the encoder (R70, R73, R74): a row and two operand bytes make an
instruction, and its encoding is the row's opcode followed by the operand bytes the row's format has. Each
instruction is made by a row, so decoding and encoding are inverse to each other. -/

namespace Sys2Proof

open Machine

/-- The row of an opcode byte is a row of the table, and that byte is its opcode. -/
theorem lookupOpcode_some_inv {op : Byte} {row : OpcodeRow} (h : lookupOpcode op = some row) :
    row ∈ opcodeTable ∧ row.opcode = op :=
  ⟨List.mem_of_find?_eq_some h, by simpa using List.find?_some h⟩

theorem decode_cons_of_lookupOpcode {op : Byte} {row : OpcodeRow} (h : lookupOpcode op = some row)
    (bytes : List Byte) : decode (op :: bytes) = decodeOperands row bytes := by
  simp only [decode, h]

/-- Of two operand bytes, those that the format has (R73). -/
def Mode.operands (mode : Mode) (b1 b2 : Byte) : List Byte := [b1, b2].take (mode.length - 1)

theorem Mode.one_le_length (mode : Mode) : 1 ≤ mode.length := by cases mode <;> decide

theorem Mode.length_le_three (mode : Mode) : mode.length ≤ 3 := by cases mode <;> decide

/-- With the opcode the operand bytes are as many as the format's length says (R73). -/
theorem Mode.operands_length (mode : Mode) (b1 b2 : Byte) :
    (mode.operands b1 b2).length + 1 = mode.length := by
  have hone := mode.one_le_length
  have hthree := mode.length_le_three
  simp only [operands, List.length_take, List.length_cons, List.length_nil]
  omega

/-- What a row makes of two operand bytes is encoded as its opcode and the bytes its format has, and made
again from these by the decoder, whatever follows them. -/
def OpcodeRow.Agrees (row : OpcodeRow) : Prop :=
  ∀ b1 b2, encode (row.build b1 b2) = row.opcode :: row.mode.operands b1 b2 ∧
    ∀ rest, decodeOperands row (row.mode.operands b1 b2 ++ rest) = .ok (row.build b1 b2, rest)

/-- Every row of R74 agrees with the encoder's equation for its instruction. An operand word is `word b1 b2`,
whose low byte is `b1` and high byte `b2`. -/
theorem opcodeTable_agrees (row : OpcodeRow) (hrow : row ∈ opcodeTable) : row.Agrees := by
  fin_cases hrow
  all_goals
    refine fun b1 b2 => ⟨?_, fun _ => rfl⟩
    simp [encode, Mode.operands, Mode.length, lo_word, hi_word]

/-- The row of an encoding's first byte makes the instruction again from the bytes after it. In the cases
listed these are the two bytes of an operand word. -/
theorem exists_lookupOpcode_build_encode_eq (i : Instr) :
    ∃ op row, (encode i).head? = some op ∧ lookupOpcode op = some row ∧
      row.build ((encode i).getD 1 0) ((encode i).getD 2 0) = i := by
  cases i
  case adcAbs w | adcAbx w | adcAby w | sbcAbs w | sbcAbx w | sbcAby w | andAbs w | andAbx w | andAby w |
      oraAbs w | oraAbx w | oraAby w | eorAbs w | eorAbx w | eorAby w | ldaAbs w | ldaAbx w | ldaAby w |
      ldxAbs w | ldxAby w | ldyAbs w | ldyAbx w | staAbs w | staAbx w | staAby w | stxAbs w | styAbs w |
      aslAbs w | aslAbx w | lsrAbs w | lsrAbx w | rolAbs w | rolAbx w | rorAbs w | rorAbx w | cmpAbs w |
      cmpAbx w | cmpAby w | cpxAbs w | cpyAbs w | incAbs w | incAbx w | decAbs w | decAbx w | jmpAbs w |
      jmpInd w | jsr w | bitAbs w =>
    exact ⟨_, _, rfl, rfl, congrArg _ (word_lo_hi w)⟩
  all_goals exact ⟨_, _, rfl, rfl, rfl⟩

/-- Each instruction is made by a row of the table from operand bytes. -/
theorem exists_row_build_eq (i : Instr) :
    ∃ row b1 b2, lookupOpcode row.opcode = some row ∧ row.build b1 b2 = i := by
  obtain ⟨_, row, -, hlookup, hbuild⟩ := exists_lookupOpcode_build_encode_eq i
  obtain ⟨-, rfl⟩ := lookupOpcode_some_inv hlookup
  exact ⟨row, _, _, hlookup, hbuild⟩

/-- What the decoder answers is what the row makes, and the bytes it leaves follow the row's operand bytes. -/
theorem decodeOperands_ok_inv {row : OpcodeRow} {bytes rest : List Byte} {i : Instr}
    (h : decodeOperands row bytes = .ok (i, rest)) :
    ∃ b1 b2, bytes = row.mode.operands b1 b2 ++ rest ∧ row.build b1 b2 = i := by
  unfold decodeOperands at h
  split at h
  next hlength =>
    cases h
    exact ⟨0#8, 0#8, by simp [Mode.operands, hlength], rfl⟩
  next b1 _ hlength =>
    cases h
    exact ⟨b1, 0#8, by simp [Mode.operands, hlength], rfl⟩
  next b1 b2 _ hlength =>
    cases h
    exact ⟨b1, b2, by simp [Mode.operands, hlength], rfl⟩
  next => cases h

/-- Bytes that decode begin with the opcode of a row and its operand bytes. -/
theorem decode_ok_inv {bytes rest : List Byte} {i : Instr} (h : decode bytes = .ok (i, rest)) :
    ∃ row b1 b2, row ∈ opcodeTable ∧ bytes = row.opcode :: row.mode.operands b1 b2 ++ rest ∧
      row.build b1 b2 = i := by
  unfold decode at h
  split at h
  next => cases h
  next op operands =>
    split at h
    next => cases h
    next row hlookup =>
      obtain ⟨hrow, rfl⟩ := lookupOpcode_some_inv hlookup
      obtain ⟨b1, b2, rfl, hbuild⟩ := decodeOperands_ok_inv h
      exact ⟨row, b1, b2, hrow, rfl, hbuild⟩

/-- A row makes the instruction, encodes it, and decodes the encoding. -/
theorem decode_encode_append (i : Instr) (rest : List Byte) : decode (encode i ++ rest) = .ok (i, rest) := by
  obtain ⟨row, b1, b2, hlookup, rfl⟩ := exists_row_build_eq i
  obtain ⟨hencode, hdecode⟩ := opcodeTable_agrees row (lookupOpcode_some_inv hlookup).1 b1 b2
  rw [hencode, List.cons_append, decode_cons_of_lookupOpcode hlookup, hdecode]

/-- Settles O2, through the row that makes the instruction. -/
theorem decodeOfEncodeIsIdentity : Obligations.DecodeOfEncodeIsIdentity := decode_encode_append

/-- Settles O3: the row that decoded the bytes encodes what it made of them as those bytes. -/
theorem encodeOfDecodeIsIdentity : Obligations.EncodeOfDecodeIsIdentity := by
  intro bytes i rest h
  obtain ⟨row, b1, b2, hrow, rfl, rfl⟩ := decode_ok_inv h
  rw [(opcodeTable_agrees row hrow b1 b2).1]

/-- An encoding is as long as the format of its first byte's row says (R73). -/
theorem exists_row_encode_length (i : Instr) :
    ∃ row, (encode i).head? = some row.opcode ∧ lookupOpcode row.opcode = some row ∧
      (encode i).length = row.mode.length := by
  obtain ⟨row, b1, b2, hlookup, rfl⟩ := exists_row_build_eq i
  obtain ⟨hencode, -⟩ := opcodeTable_agrees row (lookupOpcode_some_inv hlookup).1 b1 b2
  exact ⟨row, by rw [hencode, List.head?_cons], hlookup,
    by rw [hencode, List.length_cons, Mode.operands_length]⟩

/-- Settles O5: one opcode byte has one row, and the row's format has 1, 2 or 3 bytes. -/
theorem lengthIsDecidedByOpcodeByte : Obligations.LengthIsDecidedByOpcodeByte := by
  intro i j hhead
  obtain ⟨row, hi, hlookupi, hlengthi⟩ := exists_row_encode_length i
  obtain ⟨row', hj, hlookupj, hlengthj⟩ := exists_row_encode_length j
  have hop : row.opcode = row'.opcode := Option.some.inj (hi.symm.trans (hhead.trans hj))
  obtain rfl : row = row' := Option.some.inj (hlookupi.symm.trans (hop ▸ hlookupj))
  rw [hlengthi, hlengthj]
  exact ⟨rfl, row.mode.one_le_length, row.mode.length_le_three⟩

/-- Settles O1: each word is an encoding, with what follows it. -/
theorem specWordsDecode : Obligations.SpecWordsDecode :=
  ⟨decode_encode_append (.ldaImm 0x05) _, decode_encode_append (.adcImm 0x03) _,
   decode_encode_append .brk _, decode_encode_append (.staAby 0x1234) _,
   decode_encode_append (.rolZpx 0xF0) _, decode_encode_append (.cmpIzy 0x20) _,
   decode_encode_append (.incAbx 0x0200) _, decode_encode_append (.beq 0xFE) _,
   decode_encode_append (.jmpInd 0x02FF) _, decode_encode_append (.eorIzx 0x20) _,
   decode_encode_append (.stxZpy 0xF0) _, decode_encode_append .plp _, decode_encode_append .clv _,
   decode_encode_append .txs _⟩

end Sys2Proof
end

section
/-! SUPPORT. The 256 bytes (R75, R77): each is the opcode of a row or in the list of R77. As 151 rows and 105
listed bytes make 256, no byte has two places. -/

namespace Sys2Proof

/-- Every byte is in the list of R77 or has a row. -/
theorem mem_unknownOpcodes_or_lookupOpcode_isSome (op : Byte) :
    op.toNat ∈ unknownOpcodes ∨ (lookupOpcode op).isSome := by
  revert op
  decide

/-- The opcodes of the rows and the list of R77 are together the 256 bytes, each once. -/
theorem opcodes_append_unknownOpcodes_perm :
    (opcodeTable.map (fun row => row.opcode.toNat) ++ unknownOpcodes).Perm (List.range 256) := by
  have hcover : List.range 256 ⊆ opcodeTable.map (fun row => row.opcode.toNat) ++ unknownOpcodes := by
    intro n hn
    obtain ⟨op, rfl⟩ : ∃ op : Byte, op.toNat = n :=
      ⟨BitVec.ofNatLT n (List.mem_range.mp hn), BitVec.toNat_ofNatLT ..⟩
    rw [List.mem_append]
    rcases mem_unknownOpcodes_or_lookupOpcode_isSome op with hunknown | hknown
    · exact .inr hunknown
    · obtain ⟨row, hlookup⟩ := Option.isSome_iff_exists.mp hknown
      obtain ⟨hrow, rfl⟩ := lookupOpcode_some_inv hlookup
      exact .inl (List.mem_map_of_mem hrow)
  have hrows : opcodeTable.length = 151 := rfl
  have hlisted : unknownOpcodes.length = 105 := rfl
  exact ((List.subperm_of_subset List.nodup_range hcover).perm_of_length_le (by simp [hrows, hlisted])).symm

/-- A byte has one place among the rows and the list of R77. -/
theorem countP_opcode_add_count_unknownOpcodes (op : Byte) :
    opcodeTable.countP (fun row => row.opcode == op) + unknownOpcodes.count op.toNat = 1 := by
  have hrows : opcodeTable.countP (fun row => row.opcode == op) =
      (opcodeTable.map fun row => row.opcode.toNat).count op.toNat := by
    simp only [List.count, List.countP_map, Function.comp_def, BEq.beq, BitVec.toNat_inj]
  rw [hrows, ← List.count_append, opcodes_append_unknownOpcodes_perm.count_eq]
  exact List.count_eq_one_of_mem List.nodup_range (List.mem_range.mpr op.isLt)

theorem lookupOpcode_eq_none_iff {op : Byte} : lookupOpcode op = none ↔ op.toNat ∈ unknownOpcodes := by
  have hnone : lookupOpcode op = none ↔ opcodeTable.countP (fun row => row.opcode == op) = 0 := by
    simp [lookupOpcode]
  have hcount := countP_opcode_add_count_unknownOpcodes op
  rw [hnone, ← List.count_pos_iff]
  omega

/-- A row found, the only error left is that operand bytes are missing. -/
theorem decodeOperands_ne_unknownOpcode (row : OpcodeRow) (bytes : List Byte) (op : Byte) :
    decodeOperands row bytes ≠ .error (.unknownOpcode op) := by
  unfold decodeOperands
  split <;> simp

theorem decode_eq_unknownOpcode_iff {op : Byte} {bytes : List Byte} :
    decode (op :: bytes) = .error (.unknownOpcode op) ↔ lookupOpcode op = none := by
  cases hlookup : lookupOpcode op with
  | none => simp [decode, hlookup]
  | some row => simp [decode_cons_of_lookupOpcode hlookup, decodeOperands_ne_unknownOpcode]

/-- Settles O4: each of the 256 bytes has one place among the rows and the list. -/
theorem unknownOpcodesAreRejectedByName : Obligations.UnknownOpcodesAreRejectedByName := by
  have hnodup := (opcodes_append_unknownOpcodes_perm.nodup_iff.mpr List.nodup_range).of_append_right
  refine ⟨rfl, hnodup, rfl, fun op rest =>
    ⟨decode_eq_unknownOpcode_iff.trans lookupOpcode_eq_none_iff, fun hknown => ?_⟩⟩
  simpa [List.count_eq_zero_of_not_mem hknown] using countP_opcode_add_count_unknownOpcodes op

end Sys2Proof
end

section
/-! SUPPORT. The instruction that memory holds at PC (R70 to R72, R83) and the steps that complete (R203,
R215). -/

namespace Sys2Proof.Machine

/-- The fetch shows the bytes at PC and the two addresses after it, numbered as R83 does. -/
theorem fetchBytes_eq_map (s : State) :
    fetchBytes s = (List.range 3).map fun k => s.read (s.pc + BitVec.ofNat 16 k) := by
  simp [fetchBytes, List.range_succ]

/-- The encoding that memory holds at PC is the beginning of what the fetch shows, which is long enough for
every format (R73). -/
theorem encode_isPrefix_fetchBytes {s : State} {i : Instr}
    (hmem : ∀ k (h : k < (encode i).length), s.read (s.pc + BitVec.ofNat 16 k) = (encode i)[k]) :
    encode i <+: fetchBytes s := by
  obtain ⟨-, -, hlength⟩ := lengthIsDecidedByOpcodeByte i i rfl
  rw [List.prefix_iff_getElem, fetchBytes_eq_map]
  refine ⟨by simpa using hlength, fun k hk => ?_⟩
  simp [hmem k hk]

/-- Settles O7: the fetch shows the encoding and some bytes after it, which decode to the instruction. -/
theorem stepRunsEncodedInstructionInMemory : Obligations.StepRunsEncodedInstructionInMemory := by
  intro s i hmem
  obtain ⟨rest, hfetch⟩ := encode_isPrefix_fetchBytes hmem
  exact stepRunsDecodedInstruction s i rest (hfetch ▸ decode_encode_append i rest)

/-- The fetch finds an instruction exactly when the byte at PC has a row: the two bytes after it are enough
for every format (R73). -/
theorem exists_fetchInstr_ok_iff_safe {s : State} : (∃ i, fetchInstr s = .ok i) ↔ Safe s = true := by
  rw [Safe, Option.isSome_iff_exists]
  constructor
  · rintro ⟨i, hfetch⟩
    obtain ⟨rest, hdecode⟩ := fetchInstr_eq_ok_iff.mp hfetch
    refine Option.ne_none_iff_exists'.mp fun hnone => ?_
    rw [fetchBytes, decode_eq_unknownOpcode_iff.mpr hnone] at hdecode
    cases hdecode
  · rintro ⟨row, hlookup⟩
    obtain ⟨hrow, -⟩ := lookupOpcode_some_inv hlookup
    obtain ⟨-, hdecode⟩ := opcodeTable_agrees row hrow (s.read (s.pc + 1#16)) (s.read (s.pc + 2#16))
    have hbytes := hdecode ([s.read (s.pc + 1#16), s.read (s.pc + 2#16)].drop (row.mode.length - 1))
    rw [Mode.operands, List.take_append_drop, ← decode_cons_of_lookupOpcode hlookup] at hbytes
    exact ⟨_, fetchInstr_eq_ok_iff.mpr ⟨_, hbytes⟩⟩

/-- A step completes exactly when there is an instruction at PC, since every instruction completes (R203). -/
theorem exists_step_next_iff {s : State} : (∃ t, step s = .next t) ↔ ∃ i, fetchInstr s = .ok i := by
  constructor
  · rintro ⟨t, h⟩
    obtain ⟨i, hfetch, -⟩ := step_next_inv h
    exact ⟨i, hfetch⟩
  · rintro ⟨i, hfetch⟩
    obtain ⟨t, hexec, -⟩ := trafficLeadsToExec i s
    exact ⟨t, (step_of_fetchInstr_ok hfetch).trans hexec⟩

theorem runsSafely_succ_iff {k : Nat} {s : State} :
    runsSafely (k + 1) s = true ↔ ∃ t, step s = .next t ∧ runsSafely k t = true := by
  rw [runsSafely]
  cases step s with
  | next t => simp
  | fault r => simp
  | refused r => simp

/-- Settles O10: a step completes where there is an instruction at PC, and a run goes step by step. -/
theorem safeStatesAreThoseThatComplete : Obligations.SafeStatesAreThoseThatComplete := fun _ =>
  ⟨(exists_step_next_iff.trans exists_fetchInstr_ok_iff_safe).symm, rfl, fun _ => runsSafely_succ_iff⟩

end Sys2Proof.Machine
end

section
/-! SUPPORT. The effective addresses of the operand modes as numbers (R95 to R103): what a byte becomes as an
address in page 0, the word at a pointer, and the page in which mode IND stays. -/

namespace Sys2Proof.Machine

open Claims

theorem zext16_eq_ofNat (b : Byte) : zext16 b = BitVec.ofNat 16 b.toNat := (BitVec.ofNat_toNat 16 b).symm

/-- An address in page 0 plus a byte wraps within the page (R96, R97). -/
theorem zext16_add_toNat (z k : Byte) : (zext16 (z + k)).toNat = (z.toNat + k.toNat) % 256 := by
  rw [zext16_toNat, BitVec.toNat_add]

/-- A word plus an index byte wraps at 16 bits (R99, R100, R102). -/
theorem add_zext16_toNat (w : Word) (k : Byte) : (w + zext16 k).toNat = (w.toNat + k.toNat) % 65536 := by
  rw [BitVec.toNat_add, zext16_toNat]

theorem word_read_toNat (s : State) (low high : Word) :
    (word (s.read low) (s.read high)).toNat = wordAt s low high := by
  rw [word_toNat, wordAt, Nat.mul_comm, Nat.add_comm]

/-- A pointer in page 0 takes its second byte from page 0 too (R101, R102). -/
theorem zeroPagePointer_toNat (z : Byte) (s : State) :
    (zeroPagePointer z s).toNat =
      wordAt s (BitVec.ofNat 16 z.toNat) (BitVec.ofNat 16 ((z.toNat + 1) % 256)) := by
  have hsecond : (z + 1#8).toNat = (z.toNat + 1) % 256 := BitVec.toNat_add z 1#8
  rw [zeroPagePointer, word_read_toNat, zext16_eq_ofNat, zext16_eq_ofNat, hsecond]

theorem word_and_word (l h l' h' : Byte) : word l h &&& word l' h' = word (l &&& l') (h &&& h') :=
  BitVec.and_append

theorem word_or_word (l h l' h' : Byte) : word l h ||| word l' h' = word (l ||| l') (h ||| h') :=
  BitVec.or_append

/-- The page of an address: its high byte, the low byte cleared. -/
theorem and_pageMask_eq_word (w : Word) : w &&& 0xFF00#16 = word 0#8 (hi w) := by
  calc w &&& 0xFF00#16 = word (lo w) (hi w) &&& word 0#8 (BitVec.allOnes 8) := by rw [word_lo_hi]; rfl
    _ = word 0#8 (hi w) := by rw [word_and_word, BitVec.and_zero, BitVec.and_allOnes]

/-- The offset of an address within its page: its low byte. -/
theorem and_offsetMask_eq_word (w : Word) : w &&& 0x00FF#16 = word (lo w) 0#8 := by
  calc w &&& 0x00FF#16 = word (lo w) (hi w) &&& word (BitVec.allOnes 8) 0#8 := by rw [word_lo_hi]; rfl
    _ = word (lo w) 0#8 := by rw [word_and_word, BitVec.and_zero, BitVec.and_allOnes]

/-- The masks of R103 choose the page of the pointer and the offset of the next address. -/
theorem indirectHighAddr_eq_word (p : Word) : indirectHighAddr p = word (lo (p + 1#16)) (hi p) := by
  rw [indirectHighAddr, and_pageMask_eq_word, and_offsetMask_eq_word, word_or_word, BitVec.zero_or,
    BitVec.or_zero]

/-- Mode IND reads its high byte at the next address, or at the start of the page where the pointer is the
page's last byte (R103). -/
theorem indirectHighAddr_eq_ite (p : Word) :
    indirectHighAddr p = if p.toNat % 256 = 255 then p - 255#16 else p + 1#16 := by
  apply BitVec.eq_of_toNat_eq
  have := p.isLt
  simp only [indirectHighAddr_eq_word, word_toNat, hi_toNat, lo_toNat, BitVec.toNat_add]
  split
  next hlast =>
    simp only [BitVec.toNat_sub, BitVec.toNat_ofNat]
    omega
  next hinside =>
    simp only [BitVec.toNat_add, BitVec.toNat_ofNat]
    omega

theorem indirectTarget_eq_ofNat (p : Word) (s : State) :
    indirectTarget p s =
      BitVec.ofNat 16 (wordAt s p (if p.toNat % 256 = 255 then p - 255#16 else p + 1#16)) := by
  rw [indirectTarget, word_eq_ofNat, indirectHighAddr_eq_ite, wordAt]

/-- Settles O20: an index is added to the operand before the byte becomes an address. -/
theorem zeroPageModesStayInPageZero : Obligations.ZeroPageModesStayInPageZero := fun z s =>
  ⟨zext16_toNat z, zext16_add_toNat z s.x, zext16_add_toNat z s.y⟩

/-- Settles O21: an index is added to the operand as a 16-bit word. -/
theorem absoluteModesWrapAtSixteenBits : Obligations.AbsoluteModesWrapAtSixteenBits := fun w s =>
  ⟨rfl, add_zext16_toNat w s.x, add_zext16_toNat w s.y⟩

/-- Settles O22: IZX adds its index to the pointer's address, IZY to the word found there. -/
theorem indirectModesReadPointerInPageZero : Obligations.IndirectModesReadPointerInPageZero := by
  intro z s
  constructor
  · have hk : (z + s.x).toNat = (z.toNat + s.x.toNat) % 256 := BitVec.toNat_add z s.x
    rw [izx, zeroPagePointer_toNat, hk]
  · rw [izy, add_zext16_toNat, zeroPagePointer_toNat]

theorem exec_jmpAbs (w : Word) (s : State) : exec (.jmpAbs w) s = .next (s.jump w) := rfl

theorem exec_jmpInd (p : Word) (s : State) : exec (.jmpInd p) s = .next (s.jump (indirectTarget p s)) := rfl

/-- Settles O36: both forms load PC, mode IND with the word that it reads within the pointer's page. -/
theorem jmpLoadsTarget : Obligations.JmpLoadsTarget := by
  refine ⟨fun w => ⟨rfl, exec_jmpAbs w⟩, fun p => ⟨rfl, fun s => ?_⟩⟩
  rw [exec_jmpInd, indirectTarget_eq_ofNat, State.jump]

end Sys2Proof.Machine
end

section
/-! SUPPORT. Arithmetic and logic on A (R110 to R118): what a row of a read-type mnemonic does, the sum, the
difference and the overflow formula as numbers, and the statements about the five mnemonics. -/

namespace Sys2Proof.Machine

open Claims

/-- A read-type instruction of the given effect: it runs the effect on its operand once PC is past it
(R90, R105), and no operand depends on D. -/
structure RunsOn (f : Byte → State → State) (i : Instr) (len : Word) (v : State → Byte) : Prop where
  exec_eq : ∀ s, exec i s = .next (f (v s) { s with pc := s.pc + len })
  operand_setD : ∀ (s : State) (x : Bool), v { s with d := x } = v s

/-- What every instruction of an effect satisfies, the rows of that effect satisfy. -/
theorem reads_of_runOn {forms : List Form} {f : Byte → State → State}
    {P : Instr → Word → (State → Byte) → Prop} (hforms : ∀ form ∈ forms, form.Reads (RunsOn f))
    (hP : ∀ i len v, RunsOn f i len v → P i len v) : ∀ form ∈ forms, form.Reads P := by
  intro form hform
  have h := hforms form hform
  cases form <;> exact fun operand => (h operand).imp_right (hP _ _ _)

/-! Each row of the five mnemonics runs its mnemonic's effect (R74, R105): by the row's own encoding and
meaning. -/

theorem adcForms_runOn : ∀ form ∈ adcForms, form.Reads (RunsOn addWithCarry) := by
  intro form h
  fin_cases h <;> exact fun _ => ⟨rfl, fun _ => rfl, fun _ _ => rfl⟩

theorem sbcForms_runOn : ∀ form ∈ sbcForms, form.Reads (RunsOn (subtractWithBorrow config)) := by
  intro form h
  fin_cases h <;> exact fun _ => ⟨rfl, fun _ => rfl, fun _ _ => rfl⟩

theorem andForms_runOn : ∀ form ∈ andForms, form.Reads (RunsOn andA) := by
  intro form h
  fin_cases h <;> exact fun _ => ⟨rfl, fun _ => rfl, fun _ _ => rfl⟩

theorem oraForms_runOn : ∀ form ∈ oraForms, form.Reads (RunsOn orA) := by
  intro form h
  fin_cases h <;> exact fun _ => ⟨rfl, fun _ => rfl, fun _ _ => rfl⟩

theorem eorForms_runOn : ∀ form ∈ eorForms, form.Reads (RunsOn xorA) := by
  intro form h
  fin_cases h <;> exact fun _ => ⟨rfl, fun _ => rfl, fun _ _ => rfl⟩

/-- A result loaded into A sets N and Z as numbers say (R33). -/
theorem loadA_eq_intoA (r : Byte) (s : State) : loadA r s = intoA r s := by
  rw [loadA, State.setNZ, bit7_eq_neg, isZero_eq_zer, intoA]

/-- Rows whose effect loads a function of A and the operand into A. -/
theorem readsTo_intoA {forms : List Form} {f : Byte → State → State} {op : Byte → Byte → Byte}
    (hforms : ∀ form ∈ forms, form.Reads (RunsOn f)) (hf : ∀ v s, f v s = loadA (op s.a v) s) :
    ReadsTo forms fun v s => intoA (op s.a v) s := by
  refine reads_of_runOn hforms fun i len v h s => ?_
  rw [h.exec_eq, hf, loadA_eq_intoA]
  rfl

/-- Settles O26: each of the three loads its bitwise result into A. -/
theorem logicalInstructionsWriteA : Obligations.LogicalInstructionsWriteA :=
  ⟨readsTo_intoA andForms_runOn fun _ _ => rfl, readsTo_intoA oraForms_runOn fun _ _ => rfl,
    readsTo_intoA eorForms_runOn fun _ _ => rfl⟩

theorem and_signMask_ne_zero (b : Byte) : ((b &&& 0x80#8) != 0#8) = bit7 b := by
  rw [show 0x80#8 = BitVec.twoPow 8 7 from rfl, BitVec.and_twoPow, bit7]
  cases b.getLsbD 7 <;> rfl

/-- The formula of R111 by signs: the result's differs from both operands'. -/
theorem overflows_eq_signs (a v r : Byte) :
    overflows a v r = ((bit7 a ^^ bit7 r) && (bit7 v ^^ bit7 r)) := by
  rw [overflows, and_signMask_ne_zero, bit7, BitVec.getLsbD_and, BitVec.getLsbD_xor, BitVec.getLsbD_xor]
  rfl

/-- A byte read as signed (R111). -/
theorem toInt_eq_ite_neg (b : Byte) :
    b.toInt = if neg b.toNat then (b.toNat : Int) - 256 else b.toNat := by
  rw [BitVec.toInt_eq_msb_cond, BitVec.msb_eq_decide]
  rfl

/-- The formula of R111 says when the signed sum leaves the byte range. -/
theorem overflows_sum (a v : Byte) (c : Bool) :
    overflows a v (BitVec.ofNat 8 (a.toNat + v.toNat + c.toNat)) =
      outsideSigned (a.toInt + v.toInt + (c.toNat : Int)) := by
  have ha := a.isLt
  have hv := v.isLt
  have hc := c.toNat_le
  rw [overflows_eq_signs, bit7_eq_neg, bit7_eq_neg, bit7_eq_neg, BitVec.toNat_ofNat, toInt_eq_ite_neg,
    toInt_eq_ite_neg]
  rw [Bool.eq_iff_iff]
  simp only [neg, outsideSigned, Bool.and_eq_true, Bool.xor_iff_ne, ne_eq, decide_eq_decide,
    decide_eq_true_eq]
  split <;> split <;> omega

/-- ADC as numbers (R111). -/
theorem addWithCarry_eq (v : Byte) (s : State) :
    addWithCarry v s =
      { s with
        a := BitVec.ofNat 8 (s.a.toNat + v.toNat + s.c.toNat)
        c := decide (s.a.toNat + v.toNat + s.c.toNat > 255)
        z := zer ((s.a.toNat + v.toNat + s.c.toNat) % 256)
        n := neg ((s.a.toNat + v.toNat + s.c.toNat) % 256)
        v := outsideSigned (s.a.toInt + v.toInt + (s.c.toNat : Int)) } := by
  simp only [addWithCarry, overflows_sum, bit7_eq_neg, isZero_eq_zer, BitVec.toNat_ofNat]

/-- Settles O23: the sum as numbers, and the overflow formula as the range of the signed sum. -/
theorem adcAddsWithCarry : Obligations.AdcAddsWithCarry := by
  refine reads_of_runOn adcForms_runOn fun i len v h s => ⟨overflows_sum s.a (v s) s.c, ?_⟩
  rw [h.exec_eq, addWithCarry_eq]

theorem complement_toNat (v : Byte) : (v ^^^ 0xFF#8).toNat = 255 - v.toNat := by
  rw [show 0xFF#8 = BitVec.allOnes 8 from rfl, BitVec.xor_allOnes, BitVec.toNat_not]

/-- Adding the complement subtracts, the carry being the borrow's absence (R113). -/
theorem sum_complement_eq_difference (a v : Byte) (c : Bool) :
    BitVec.ofNat 8 (a.toNat + (v ^^^ 0xFF#8).toNat + c.toNat) =
      BitVec.ofInt 8 ((a.toNat : Int) - v.toNat - (1 - c.toNat)) := by
  have hv := v.isLt
  apply BitVec.eq_of_toNat_eq
  rw [complement_toNat, BitVec.toNat_ofNat, BitVec.toNat_ofInt]
  omega

/-- The sum with the complement carries exactly when no borrow occurs (R113). -/
theorem sum_complement_carries (a v : Byte) (c : Bool) :
    decide (a.toNat + (v ^^^ 0xFF#8).toNat + c.toNat > 255) =
      decide ((a.toNat : Int) ≥ v.toNat + (1 - c.toNat)) := by
  have hv := v.isLt
  rw [complement_toNat, decide_eq_decide]
  omega

/-- SBC as numbers under the default parameter (R113). -/
theorem subtractWithBorrow_of_not_writesNV {cfg : Config} (hcfg : cfg.sbcWritesNV = false) (v : Byte)
    (s : State) :
    let r := BitVec.ofInt 8 ((s.a.toNat : Int) - v.toNat - (1 - s.c.toNat))
    subtractWithBorrow cfg v s =
      { s with
        a := r, z := zer r.toNat, c := decide ((s.a.toNat : Int) ≥ v.toNat + (1 - s.c.toNat)) } := by
  simp only [subtractWithBorrow, hcfg, sum_complement_eq_difference, sum_complement_carries, isZero_eq_zer,
    Bool.false_eq_true, if_false]

/-- SBC as numbers under `SBC_WRITES_NV` (R113). -/
theorem subtractWithBorrow_of_writesNV {cfg : Config} (hcfg : cfg.sbcWritesNV = true) (v : Byte)
    (s : State) :
    let r := BitVec.ofInt 8 ((s.a.toNat : Int) - v.toNat - (1 - s.c.toNat))
    subtractWithBorrow cfg v s =
      { s with
        a := r, z := zer r.toNat, c := decide ((s.a.toNat : Int) ≥ v.toNat + (1 - s.c.toNat))
        n := neg r.toNat, v := ((s.a ^^^ r) &&& ((v ^^^ 0xFF#8) ^^^ r) &&& 0x80#8) != 0#8 } := by
  simp only [subtractWithBorrow, hcfg, sum_complement_eq_difference, sum_complement_carries, isZero_eq_zer,
    bit7_eq_neg, overflows, if_true]

/-- Settles O24: adding the complement subtracts, and the parameter decides about N and V alone. -/
theorem sbcSubtractsWithBorrow : Obligations.SbcSubtractsWithBorrow := by
  refine ⟨reads_of_runOn sbcForms_runOn fun i len v h s => ?_,
    fun cfg v s hcfg => subtractWithBorrow_of_writesNV hcfg v s⟩
  rw [h.exec_eq, subtractWithBorrow_of_not_writesNV rfl]

/-- The effect does not read D and carries it through. -/
def CarriesD (f : Byte → State → State) : Prop :=
  ∀ (v : Byte) (s : State) (x : Bool), f v { s with d := x } = { f v s with d := x }

theorem addWithCarry_carriesD : CarriesD addWithCarry := fun _ _ _ => rfl

theorem subtractWithBorrow_carriesD : CarriesD (subtractWithBorrow config) := fun _ _ _ => rfl

/-- Where neither the operand nor the effect reads D, the instruction does not. -/
theorem RunsOn.exec_setD {f : Byte → State → State} {i : Instr} {len : Word} {v : State → Byte}
    (h : RunsOn f i len v) (hf : CarriesD f) (s : State) (x : Bool) :
    ∃ t, exec i s = .next t ∧ exec i { s with d := x } = .next { t with d := x } := by
  refine ⟨_, h.exec_eq s, ?_⟩
  rw [h.exec_eq, h.operand_setD, ← hf]

theorem addWithCarry_a (v : Byte) (s : State) :
    (addWithCarry v s).a = BitVec.ofNat 8 (s.a.toNat + v.toNat + s.c.toNat) := rfl

/-- Settles O25: no operand and neither effect reads D; with D set, 0x09 and 0x01 still add in binary. -/
theorem decimalFlagDoesNotChangeArithmetic : Obligations.DecimalFlagDoesNotChangeArithmetic := by
  refine ⟨List.forall_mem_append.mpr ⟨?_, ?_⟩, fun s _ ha hc => ⟨_, rfl, ?_⟩⟩
  · exact reads_of_runOn adcForms_runOn fun _ _ _ h => h.exec_setD addWithCarry_carriesD
  · exact reads_of_runOn sbcForms_runOn fun _ _ _ h => h.exec_setD subtractWithBorrow_carriesD
  · rw [addWithCarry_a, State.advance_a, State.advance_c, ha, hc]
    rfl

end Sys2Proof.Machine
end

section
/-! SUPPORT. Loads and stores (R120 to R126): the effect of a row, for a load as a number in its register
and for a store as one write, and the statements about the six mnemonics. -/

namespace Sys2Proof.Machine

open Claims

theorem ldaForms_runOn : ∀ form ∈ ldaForms, form.Reads (RunsOn loadA) := by
  intro form h
  fin_cases h <;> exact fun _ => ⟨rfl, fun _ => rfl, fun _ _ => rfl⟩

theorem ldxForms_runOn : ∀ form ∈ ldxForms, form.Reads (RunsOn loadX) := by
  intro form h
  fin_cases h <;> exact fun _ => ⟨rfl, fun _ => rfl, fun _ _ => rfl⟩

theorem ldyForms_runOn : ∀ form ∈ ldyForms, form.Reads (RunsOn loadY) := by
  intro form h
  fin_cases h <;> exact fun _ => ⟨rfl, fun _ => rfl, fun _ _ => rfl⟩

theorem loadX_eq_intoX (r : Byte) (s : State) : loadX r s = intoX r s := by
  rw [loadX, State.setNZ, bit7_eq_neg, isZero_eq_zer, intoX]

theorem loadY_eq_intoY (r : Byte) (s : State) : loadY r s = intoY r s := by
  rw [loadY, State.setNZ, bit7_eq_neg, isZero_eq_zer, intoY]

/-- Rows end in the state `g operand s` with PC past them, where their effect, run once PC is past them,
gives that state. -/
theorem readsTo_of_runOn {forms : List Form} {f g : Byte → State → State}
    (hforms : ∀ form ∈ forms, form.Reads (RunsOn f))
    (hf : ∀ v s p, f v { s with pc := p } = { g v s with pc := p }) : ReadsTo forms g := by
  refine reads_of_runOn hforms fun i len v h s => ?_
  rw [h.exec_eq, hf]

/-- Settles O27: each of the three loads its operand, and sets N and Z as numbers say. -/
theorem loadsWriteRegisterAndFlags : Obligations.LoadsWriteRegisterAndFlags :=
  ⟨readsTo_of_runOn ldaForms_runOn fun v _ _ => loadA_eq_intoA v _,
    readsTo_of_runOn ldxForms_runOn fun v _ _ => loadX_eq_intoX v _,
    readsTo_of_runOn ldyForms_runOn fun v _ _ => loadY_eq_intoY v _⟩

/-- What follows for every instruction in a memory mode, follows for a row. -/
theorem at_imp {P Q : Instr → Word → (State → Word) → Prop} (hPQ : ∀ i len ea, P i len ea → Q i len ea)
    {form : Form} (h : form.At P) : form.At Q := by
  cases form with
  | imm => exact h
  | byte | wide => exact fun operand => (h operand).imp_right (hPQ _ _ _)

/-- A write-type instruction of the given register (R120): one write, of the register before it at the
effective address before it, once PC is past the instruction. -/
def WritesFrom (register : State → Byte) (i : Instr) (len : Word) (ea : State → Word) : Prop :=
  ∀ s, exec i s = .next (State.write (ea s) (register s) { s with pc := s.pc + len })

/-! Each row of the three mnemonics writes its mnemonic's register (R74, R120): by the row's own encoding
and meaning. -/

theorem staForms_writeFrom : ∀ form ∈ staForms, form.At (WritesFrom State.a) := by
  intro form h
  fin_cases h <;> exact fun _ => ⟨rfl, fun _ => rfl⟩

theorem stxForms_writeFrom : ∀ form ∈ stxForms, form.At (WritesFrom State.x) := by
  intro form h
  fin_cases h <;> exact fun _ => ⟨rfl, fun _ => rfl⟩

theorem styForms_writeFrom : ∀ form ∈ styForms, form.At (WritesFrom State.y) := by
  intro form h
  fin_cases h <;> exact fun _ => ⟨rfl, fun _ => rfl⟩

theorem State.write_onlyStores (addr : Word) (v : Byte) (s : State) :
    OnlyStores s (s.write addr v) [(addr, v)] := by
  simp +contextual [OnlyStores, State.read_write]

/-- A write after PC has moved is a store of one byte: the moved PC is no part of the memory. -/
theorem storesRegister_of_writeFrom {forms : List Form} {register : State → Byte}
    (hforms : ∀ form ∈ forms, form.At (WritesFrom register)) : StoresRegister forms register :=
  fun form hform => at_imp
    (fun _ len ea h s => ⟨_, h s, rfl, State.write_onlyStores (ea s) (register s) { s with pc := s.pc + len }⟩)
    (hforms form hform)

/-- Settles O28: each of the three is one write of its register at the effective address. -/
theorem storesWriteOneByte : Obligations.StoresWriteOneByte :=
  ⟨storesRegister_of_writeFrom staForms_writeFrom, storesRegister_of_writeFrom stxForms_writeFrom,
    storesRegister_of_writeFrom styForms_writeFrom⟩

end Sys2Proof.Machine
end

section
/-! SUPPORT. Shifts, rotates, compares, increments and decrements (R130 to R144): the results and flags of the
ALU's functions as numbers, the effect of a row on A or on memory, and the statements about the family. -/

namespace Sys2Proof.Machine

open Claims

/-- N and Z from a result that is known as a number (R33). -/
theorem State.setNZ_eq (r : Byte) (s : State) :
    s.setNZ r = { s with n := neg r.toNat, z := zer r.toNat } := by
  rw [State.setNZ, bit7_eq_neg, isZero_eq_zer]

theorem add_one_toNat (v : Byte) : (v + 1#8).toNat = (v.toNat + 1) % 256 := BitVec.toNat_add v 1#8

theorem sub_one_toNat (v : Byte) : (v - 1#8).toNat = (v.toNat + 255) % 256 := by
  rw [sub_one_eq_ofNat, BitVec.toNat_ofNat]

theorem eq_ofNat_of_toNat_eq {b : Byte} {r : Nat} (h : b.toNat = r) : b = BitVec.ofNat 8 r := by
  rw [← h, BitVec.ofNat_toNat, BitVec.setWidth_eq]

/-! The index registers count (R141 to R144). -/

/-- A one-byte instruction whose effect, run once PC is past it, ends in the state `g s` with PC past it. -/
theorem oneByte_of_implied {op : Byte} {i : Instr} {f g : State → State} (hencode : encode i = [op])
    (hexec : ∀ s, exec i s = implied f s) (hf : ∀ s p, f { s with pc := p } = { g s with pc := p }) :
    OneByte op i g := by
  refine ⟨hencode, fun s => ?_⟩
  rw [hexec, implied_eq_next]
  exact (hf s _).symm

/-- Settles O33: each of the four loads its register's successor or predecessor, written as a number. -/
theorem indexRegistersCountModulo256 : Obligations.IndexRegistersCountModulo256 := by
  refine ⟨?_, ?_, ?_, ?_⟩
  · refine oneByte_of_implied (f := fun s => loadX (s.x + 1#8) s) rfl (fun _ => rfl) fun s p => ?_
    rw [loadX_eq_intoX, eq_ofNat_of_toNat_eq (add_one_toNat s.x), intoX, intoX]
  · refine oneByte_of_implied (f := fun s => loadY (s.y + 1#8) s) rfl (fun _ => rfl) fun s p => ?_
    rw [loadY_eq_intoY, eq_ofNat_of_toNat_eq (add_one_toNat s.y), intoY, intoY]
  · refine oneByte_of_implied (f := fun s => loadX (s.x - 1#8) s) rfl (fun _ => rfl) fun s p => ?_
    rw [loadX_eq_intoX, eq_ofNat_of_toNat_eq (sub_one_toNat s.x), intoX, intoX]
  · refine oneByte_of_implied (f := fun s => loadY (s.y - 1#8) s) rfl (fun _ => rfl) fun s p => ?_
    rw [loadY_eq_intoY, eq_ofNat_of_toNat_eq (sub_one_toNat s.y), intoY, intoY]

/-! Compares (R135 to R138). -/

theorem cmpForms_runOn : ∀ form ∈ cmpForms, form.Reads (RunsOn (compareWith State.a)) := by
  intro form h
  fin_cases h <;> exact fun _ => ⟨rfl, fun _ => rfl, fun _ _ => rfl⟩

theorem cpxForms_runOn : ∀ form ∈ cpxForms, form.Reads (RunsOn (compareWith State.x)) := by
  intro form h
  fin_cases h <;> exact fun _ => ⟨rfl, fun _ => rfl, fun _ _ => rfl⟩

theorem cpyForms_runOn : ∀ form ∈ cpyForms, form.Reads (RunsOn (compareWith State.y)) := by
  intro form h
  fin_cases h <;> exact fun _ => ⟨rfl, fun _ => rfl, fun _ _ => rfl⟩

/-- The comparator as numbers: N is bit 7 of the difference mod 256 (R135). -/
theorem compareWith_eq (register : State → Byte) (v : Byte) (s : State) :
    compareWith register v s =
      { s with
        z := decide (register s = v), c := decide ((register s).toNat ≥ v.toNat)
        n := neg (((register s).toNat + 256 - v.toNat) % 256) } := by
  have hdifference : (register s - v).toNat = ((register s).toNat + 256 - v.toNat) % 256 := by
    have := v.isLt
    rw [BitVec.toNat_sub]
    omega
  rw [compareWith, bit7_eq_neg, hdifference]
  rfl

/-- Rows that compare a register other than PC: the moved PC is no part of the comparison. -/
theorem compares_of_runOn {forms : List Form} {register : State → Byte}
    (hforms : ∀ form ∈ forms, form.Reads (RunsOn (compareWith register)))
    (hpc : ∀ s p, register { s with pc := p } = register s) : Compares forms register := by
  refine reads_of_runOn hforms fun i len v h s => ?_
  rw [h.exec_eq, compareWith_eq, hpc]

/-- Settles O31: each row of the three runs the comparator on its register. -/
theorem comparesSetThreeFlags : Obligations.ComparesSetThreeFlags :=
  ⟨compares_of_runOn cmpForms_runOn fun _ _ => rfl, compares_of_runOn cpxForms_runOn fun _ _ => rfl,
    compares_of_runOn cpyForms_runOn fun _ _ => rfl⟩

/-! Read-modify-write in memory (R130). -/

/-- A read-modify-write instruction of the given function (R130): once PC is past the instruction, the
function's result goes to the effective address, and its flags stay. -/
def ModifiesWith (f : Byte → State → Byte × State) (i : Instr) (len : Word) (ea : State → Word) : Prop :=
  ∀ s, exec i s = .next
    (State.write (ea s) (f (s.read (ea s)) { s with pc := s.pc + len }).1
      (f (s.read (ea s)) { s with pc := s.pc + len }).2)

/-! Each row of the six mnemonics modifies memory with its mnemonic's function (R74, R130): by the row's own
encoding and meaning. -/

theorem aslForms_modifyWith : ∀ form ∈ aslForms, form.At (ModifiesWith shiftLeft) := by
  intro form h
  fin_cases h <;> exact fun _ => ⟨rfl, fun _ => rfl⟩

theorem lsrForms_modifyWith : ∀ form ∈ lsrForms, form.At (ModifiesWith shiftRight) := by
  intro form h
  fin_cases h <;> exact fun _ => ⟨rfl, fun _ => rfl⟩

theorem rolForms_modifyWith : ∀ form ∈ rolForms, form.At (ModifiesWith rotateLeft) := by
  intro form h
  fin_cases h <;> exact fun _ => ⟨rfl, fun _ => rfl⟩

theorem rorForms_modifyWith : ∀ form ∈ rorForms, form.At (ModifiesWith rotateRight) := by
  intro form h
  fin_cases h <;> exact fun _ => ⟨rfl, fun _ => rfl⟩

theorem incForms_modifyWith : ∀ form ∈ incForms, form.At (ModifiesWith increment) := by
  intro form h
  fin_cases h <;> exact fun _ => ⟨rfl, fun _ => rfl⟩

theorem decForms_modifyWith : ∀ form ∈ decForms, form.At (ModifiesWith decrement) := by
  intro form h
  fin_cases h <;> exact fun _ => ⟨rfl, fun _ => rfl⟩

/-! Increments and decrements of memory (R139, R140). -/

/-- The function's result is `result` of the operand's number, and it sets N and Z from it. -/
def CountsTo (result : Nat → Nat) (f : Byte → State → Byte × State) : Prop :=
  ∀ (v : Byte) (s : State),
    f v s = (BitVec.ofNat 8 (result v.toNat), { s with n := neg (result v.toNat), z := zer (result v.toNat) })

theorem increment_countsTo : CountsTo (fun v => (v + 1) % 256) increment := by
  intro v s
  rw [increment, State.setNZ_eq, add_one_toNat, ← eq_ofNat_of_toNat_eq (add_one_toNat v)]

theorem decrement_countsTo : CountsTo (fun v => (v + 255) % 256) decrement := by
  intro v s
  rw [decrement, State.setNZ_eq, sub_one_toNat, ← eq_ofNat_of_toNat_eq (sub_one_toNat v)]

theorem stepsMemory_of_modifyWith {forms : List Form} {f : Byte → State → Byte × State} {result : Nat → Nat}
    (hforms : ∀ form ∈ forms, form.At (ModifiesWith f)) (hf : CountsTo result f) :
    StepsMemory forms result := by
  refine fun form hform => at_imp (fun i len ea h s => ⟨_, h s, ?_⟩) (hforms form hform)
  rw [hf]
  exact ⟨rfl, State.write_onlyStores ..⟩

/-- Settles O32: the two functions as numbers, in each row's one read and one write. -/
theorem incDecModifyMemory : Obligations.IncDecModifyMemory :=
  ⟨stepsMemory_of_modifyWith incForms_modifyWith increment_countsTo,
    stepsMemory_of_modifyWith decForms_modifyWith decrement_countsTo⟩

/-! Shifts and rotates (R131 to R134). -/

theorem bit0_eq_decide (v : Byte) : bit0 v = decide (v.toNat % 2 = 1) := by
  rw [bit0, BitVec.getLsbD, Nat.testBit_zero]

theorem shiftLeft_one_toNat (v : Byte) : (v <<< 1).toNat = 2 * v.toNat % 256 := by
  rw [BitVec.toNat_shiftLeft, Nat.shiftLeft_eq, Nat.mul_comm]

theorem shiftRight_one_toNat (v : Byte) : (v >>> 1).toNat = v.toNat / 2 := by
  rw [BitVec.toNat_ushiftRight, Nat.shiftRight_eq_div_pow]

theorem flagAt_zero_toNat (flag : Bool) : (flagAt 0 flag).toNat = flag.toNat := by
  cases flag <;> rfl

theorem flagAt_seven_toNat (flag : Bool) : (flagAt 7 flag).toNat = 128 * flag.toNat := by
  cases flag <;> rfl

/-- The carry comes into the bit that the shift left empties (R133). -/
theorem shiftLeft_or_flag_toNat (v : Byte) (flag : Bool) :
    ((v <<< 1) ||| flagAt 0 flag).toNat = (2 * v.toNat + flag.toNat) % 256 := by
  have hdisjoint : (v <<< 1) &&& flagAt 0 flag = 0#8 := by
    refine BitVec.eq_of_getLsbD_eq fun j hj => ?_
    rw [BitVec.getLsbD_and, BitVec.getLsbD_shiftLeft, getLsbD_flagAt]
    by_cases hj0 : j = 0 <;> simp [hj0]
  have hflag := flag.toNat_le
  rw [← BitVec.add_eq_or_of_and_eq_zero _ _ hdisjoint, BitVec.toNat_add, shiftLeft_one_toNat,
    flagAt_zero_toNat]
  omega

/-- The carry comes into the bit that the shift right empties (R134). -/
theorem shiftRight_or_flag_toNat (v : Byte) (flag : Bool) :
    ((v >>> 1) ||| flagAt 7 flag).toNat = v.toNat / 2 + 128 * flag.toNat := by
  have hdisjoint : (v >>> 1) &&& flagAt 7 flag = 0#8 := by
    refine BitVec.eq_of_getLsbD_eq fun j hj => ?_
    rw [BitVec.getLsbD_and, BitVec.getLsbD_ushiftRight, getLsbD_flagAt]
    by_cases hj7 : j = 7 <;> simp [hj7]
  have hv := v.isLt
  have hflag := flag.toNat_le
  rw [← BitVec.add_eq_or_of_and_eq_zero _ _ hdisjoint, BitVec.toNat_add, shiftRight_one_toNat,
    flagAt_seven_toNat]
  omega

/-- The function's result and carry are functions of the operand's number and the old carry, and it sets N
and Z from the result. -/
def RotatesTo (result : Nat → Nat → Nat) (carry : Nat → Bool) (f : Byte → State → Byte × State) : Prop :=
  ∀ (v : Byte) (s : State),
    f v s =
      (BitVec.ofNat 8 (result v.toNat s.c.toNat),
        { s with
          c := carry v.toNat, n := neg (result v.toNat s.c.toNat), z := zer (result v.toNat s.c.toNat) })

theorem shiftLeft_rotatesTo : RotatesTo (fun v _ => 2 * v % 256) (fun v => decide (v ≥ 128)) shiftLeft := by
  intro v s
  rw [shiftLeft, State.setNZ_eq, shiftLeft_one_toNat, ← eq_ofNat_of_toNat_eq (shiftLeft_one_toNat v),
    bit7_eq_neg, neg]

/-- The result of LSR is below 128, so that its N is clear (R132). -/
theorem shiftRight_rotatesTo : RotatesTo (fun v _ => v / 2) (fun v => decide (v % 2 = 1)) shiftRight := by
  intro v s
  have hclear : neg (v.toNat / 2) = false := by
    have := v.isLt
    simp only [neg, decide_eq_false_iff_not]
    omega
  rw [shiftRight, isZero_eq_zer, shiftRight_one_toNat, ← eq_ofNat_of_toNat_eq (shiftRight_one_toNat v),
    hclear, bit0_eq_decide]

theorem rotateLeft_rotatesTo :
    RotatesTo (fun v c => (2 * v + c) % 256) (fun v => decide (v ≥ 128)) rotateLeft := by
  intro v s
  rw [rotateLeft, State.setNZ_eq, shiftLeft_or_flag_toNat,
    ← eq_ofNat_of_toNat_eq (shiftLeft_or_flag_toNat v s.c), bit7_eq_neg, neg]

theorem rotateRight_rotatesTo :
    RotatesTo (fun v c => v / 2 + 128 * c) (fun v => decide (v % 2 = 1)) rotateRight := by
  intro v s
  rw [rotateRight, State.setNZ_eq, shiftRight_or_flag_toNat,
    ← eq_ofNat_of_toNat_eq (shiftRight_or_flag_toNat v s.c), bit0_eq_decide]

/-- A mnemonic whose function is known as numbers, in mode ACC and in its rows in memory modes. -/
theorem shiftsTo_of_rotatesTo {acc : Instr} {accOp : Byte} {forms : List Form}
    {f : Byte → State → Byte × State} {result : Nat → Nat → Nat} {carry : Nat → Bool}
    (hf : RotatesTo result carry f) (hencode : encode acc = [accOp])
    (hacc : ∀ s, exec acc s = modifyAccumulator f s)
    (hforms : ∀ form ∈ forms, form.At (ModifiesWith f)) : ShiftsTo acc accOp forms result carry := by
  refine ⟨hencode, fun s => ?_,
    fun form hform => at_imp (fun i len ea h s => ⟨_, h s, ?_⟩) (hforms form hform)⟩
  · rw [hacc, modifyAccumulator_eq_next, hf]
    rfl
  · rw [hf]
    exact ⟨rfl, State.write_onlyStores ..⟩

/-- Settles O29: the two shifts as numbers, in each form. -/
theorem aslLsrShiftOneBit : Obligations.AslLsrShiftOneBit :=
  ⟨shiftsTo_of_rotatesTo shiftLeft_rotatesTo rfl (fun _ => rfl) aslForms_modifyWith,
    shiftsTo_of_rotatesTo shiftRight_rotatesTo rfl (fun _ => rfl) lsrForms_modifyWith⟩

/-! Nine ROLs (R133): C and the bits of A are a ring of nine, which one ROL turns by one place. -/

/-- C, then the bits of A from bit 7 to bit 0. -/
def State.carryRing (s : State) : List Bool :=
  [s.c, s.a.getLsbD 7, s.a.getLsbD 6, s.a.getLsbD 5, s.a.getLsbD 4, s.a.getLsbD 3, s.a.getLsbD 2,
    s.a.getLsbD 1, s.a.getLsbD 0]

theorem State.carryRing_inj {s t : State} (h : t.carryRing = s.carryRing) : t.a = s.a ∧ t.c = s.c := by
  simp only [State.carryRing, List.cons.injEq] at h
  obtain ⟨hc, h7, h6, h5, h4, h3, h2, h1, h0, -⟩ := h
  refine ⟨BitVec.eq_of_toNat_eq ?_, hc⟩
  rw [toNat_eq_sum_bits, toNat_eq_sum_bits s.a, h7, h6, h5, h4, h3, h2, h1, h0]

theorem runAll_cons_of_exec {i : Instr} {s t : State} (h : exec i s = .next t) (is : List Instr) :
    runAll (i :: is) s = runAll is t := by
  simp only [runAll, h]

/-- One ROL of A turns the ring. -/
theorem exec_rolAcc_carryRing (s : State) :
    ∃ t, exec .rolAcc s = .next t ∧ t.carryRing = s.carryRing.rotate 1 := by
  refine ⟨_, rfl, ?_⟩
  simp [State.carryRing, rotateLeft, bit7, getLsbD_flagAt, -BitVec.getLsbD_eq_getElem]

theorem runAll_replicate_rolAcc_carryRing (k : Nat) (s : State) :
    ∃ t, runAll (List.replicate k .rolAcc) s = some t ∧ t.carryRing = s.carryRing.rotate k := by
  induction k generalizing s with
  | zero => exact ⟨s, rfl, (List.rotate_zero _).symm⟩
  | succ k ih =>
    obtain ⟨t, hexec, ht⟩ := exec_rolAcc_carryRing s
    obtain ⟨u, hrun, hu⟩ := ih t
    refine ⟨u, ?_, ?_⟩
    · rw [List.replicate_succ, runAll_cons_of_exec hexec, hrun]
    · rw [hu, ht, List.rotate_rotate, Nat.add_comm]

theorem runAll_nine_rolAcc (s : State) :
    ∃ t, runAll (List.replicate 9 .rolAcc) s = some t ∧ t.a = s.a ∧ t.c = s.c := by
  obtain ⟨t, hrun, hring⟩ := runAll_replicate_rolAcc_carryRing 9 s
  exact ⟨t, hrun, State.carryRing_inj (hring.trans (List.rotate_length s.carryRing))⟩

/-- Settles O30: the two rotates as numbers, in each form, and nine turns of a ring of nine. -/
theorem rolRorRotateThroughCarry : Obligations.RolRorRotateThroughCarry :=
  ⟨shiftsTo_of_rotatesTo rotateLeft_rotatesTo rfl (fun _ => rfl) rolForms_modifyWith,
    shiftsTo_of_rotatesTo rotateRight_rotatesTo rfl (fun _ => rfl) rorForms_modifyWith, runAll_nine_rolAcc⟩

end Sys2Proof.Machine
end

section
/-! SUPPORT. Branches, calls and returns (R150 to R162): the branch target as a number, a word pushed and
pulled again, and the statements about the family. -/

namespace Sys2Proof.Machine

open Claims

/-! Branches (R150 to R158). -/

theorem ofInt_toNat_eq (w : Word) : BitVec.ofInt 16 (w.toNat : Int) = w := by
  rw [BitVec.ofInt_natCast, BitVec.ofNat_toNat, BitVec.setWidth_eq]

/-- The displacement is signed, and the sum wraps at 16 bits (R79, R104). -/
theorem branchTarget_advance_eq_ofInt (off : Byte) (s : State) :
    branchTarget off (s.advance 2) = BitVec.ofInt 16 ((s.pc.toNat : Int) + 2 + off.toInt) := by
  rw [BitVec.ofInt_add, BitVec.ofInt_add, ofInt_toNat_eq]
  rfl

/-- A branch whose condition does not look at PC. -/
theorem branches_of_branchIf {op : Byte} {make : Byte → Instr} {cond : State → Bool}
    (hencode : ∀ off, encode (make off) = [op, off])
    (hexec : ∀ off s, exec (make off) s = branchIf cond off s)
    (hcond : ∀ s, cond (s.advance 2) = cond s) : Branches op make cond := by
  refine fun off => ⟨hencode off, fun s => ?_⟩
  rw [hexec, branchIf, branchTarget_advance_eq_ofInt, hcond]
  cases cond s <;> rfl

/-- Settles O34: each of the eight is `branchIf` of a condition on one flag. -/
theorem branchesAddSignedDisplacement : Obligations.BranchesAddSignedDisplacement := by
  refine ⟨?_, ?_, ?_, ?_, ?_, ?_, ?_, ?_⟩ <;>
    exact branches_of_branchIf (fun _ => rfl) (fun _ _ => rfl) fun _ => rfl

/-- The displacement -2 takes PC back to the opcode's address. -/
theorem exec_beq_minus_two_of_z {s : State} (hz : s.z = true) : exec (.beq 0xFE) s = .next s := by
  obtain ⟨-, -, hbeq, -⟩ := branchesAddSignedDisplacement
  obtain ⟨-, hexec⟩ := hbeq 0xFE
  have hoff : (0xFE : Byte).toInt = -2 := rfl
  rw [hexec, if_pos hz, hoff, Int.add_neg_cancel_right, ofInt_toNat_eq]

/-- A driver that stops on a self-loop stops after a step that leaves PC where it was (R229). -/
theorem drive_selfLoop_of_step {s t : State} (hstep : step s = .next t) (hpc : t.pc = s.pc)
    (policy : UnknownOpcodePolicy) (k : Nat) : drive policy .selfLoop (k + 1) s = ⟨[], .stopped t⟩ := by
  simp [drive, hstep, hpc]

/-- Settles O35: the step is BEQ back to itself, which the driver sees at once. -/
theorem beqToItselfEndsSelfLoopRun : Obligations.BeqToItselfEndsSelfLoopRun := by
  intro s policy k hz hfetch
  have hstep : step s = .next s := (step_of_fetchInstr_ok hfetch).trans (exec_beq_minus_two_of_z hz)
  exact ⟨hstep, drive_selfLoop_of_step hstep rfl policy k⟩

/-! A word on the stack (R26, R27, R57): S wraps, and the two locations of a word differ. -/

theorem sub_one_sub_one (sp : Byte) : sp - 1#8 - 1#8 = sp - 2#8 := BitVec.sub_sub ..

theorem add_one_add_one (sp : Byte) : sp + 1#8 + 1#8 = sp + 2#8 := BitVec.add_assoc ..

theorem stackAddr_sub_one_ne (sp : Byte) : stackAddr (sp - 1#8) ≠ stackAddr sp := by
  rw [Ne, stackAddr_inj]
  bv_omega

theorem State.pop_pop (s : State) : s.pop.pop = { s with sp := s.sp + 2#8 } := by
  rw [← add_one_add_one]
  rfl

/-- Two pushes (R57): the low byte below the high byte, every other byte as before. -/
theorem State.pushWord_onlyStores (w : Word) (s : State) :
    OnlyStores s (s.pushWord w) [(stackAddr s.sp, hi w), (stackAddr (s.sp - 1#8), lo w)] := by
  have hne := (stackAddr_sub_one_ne s.sp).symm
  simp +contextual [OnlyStores, State.pushWord, State.read_push, hne]

/-- Two pulls (R161, R162): the low byte at the lower location. -/
theorem State.poppedWord_eq_ofNat (s : State) :
    s.poppedWord = BitVec.ofNat 16 (wordAt s (stackAddr (s.sp + 1#8)) (stackAddr (s.sp + 2#8))) := by
  rw [State.poppedWord, word_eq_ofNat, wordAt, ← add_one_add_one]
  rfl

/-! A jump touches neither S nor memory. -/

theorem State.pop_jump (w : Word) (s : State) : (s.jump w).pop = s.pop.jump w := rfl

theorem State.poppedWord_jump (w : Word) (s : State) : (s.jump w).poppedWord = s.poppedWord := rfl

/-! A pull after a push. -/

theorem State.popped_push (v : Byte) (s : State) : (s.push v).popped = v := by
  rw [State.popped, State.read_push, State.push_sp, BitVec.sub_add_cancel, if_pos rfl]

/-- A pull after a push restores S and does not erase the byte (R27). -/
theorem State.pop_push (v : Byte) (s : State) : (s.push v).pop = s.write (stackAddr s.sp) v := by
  rw [State.pop, State.push_sp, BitVec.sub_add_cancel]
  rfl

/-- A byte stored at the location S names is not the one pulled next. -/
theorem State.popped_write_stackAddr (v : Byte) (s : State) :
    (s.write (stackAddr s.sp) v).popped = s.popped := by
  have hne : stackAddr (s.sp + 1#8) ≠ stackAddr s.sp := by
    rw [Ne, stackAddr_inj]
    bv_omega
  rw [State.popped, State.read_write, State.write_sp, if_neg hne, State.popped]

theorem State.poppedWord_pushWord (w : Word) (s : State) : (s.pushWord w).poppedWord = w := by
  rw [State.poppedWord, State.pushWord, State.popped_push, State.pop_push, State.popped_write_stackAddr,
    State.popped_push, word_lo_hi]

/-- Two pulls restore the S of before the two pushes. -/
theorem State.pop_pop_pushWord (w : Word) (s : State) :
    (s.pushWord w).pop.pop = { s with mem := (s.pushWord w).mem } := by
  have hsp : s.sp - 1#8 - 1#8 + 1#8 + 1#8 = s.sp := by rw [BitVec.sub_add_cancel, BitVec.sub_add_cancel]
  exact congrArg (fun sp => { s with sp, mem := (s.pushWord w).mem }) hsp

/-! Call and return (R160 to R162). -/

/-- JSR pushes the address of its last byte. -/
theorem exec_jsr (w : Word) (s : State) :
    exec (.jsr w) s = .next (((s.advance 3).pushWord (s.pc + 2#16)).jump w) := by
  have hlast : (s.advance 3).pc - 1#16 = s.pc + 2#16 := by
    rw [State.advance_pc]
    bv_omega
  rw [← hlast]
  rfl

theorem exec_rts (s : State) : exec .rts s = .next (s.pop.pop.jump (s.poppedWord + 1#16)) := rfl

/-- RTI pulls a word from where the status byte's pull left S. -/
theorem exec_rti (s : State) :
    exec .rti s = .next ((s.pop.pop.pop.unpackP s.popped).jump s.pop.poppedWord) := rfl

/-- Settles O37: the word pushed, taken apart into its two bytes as numbers. -/
theorem jsrPushesLastByteAddress : Obligations.JsrPushesLastByteAddress := by
  refine fun w => ⟨rfl, fun s => ?_⟩
  have hret : (s.pc + 2#16).toNat = (s.pc.toNat + 2) % 65536 := BitVec.toNat_add s.pc 2#16
  have hhigh := eq_ofNat_of_toNat_eq (hi_toNat (s.pc + 2#16))
  have hlow := eq_ofNat_of_toNat_eq (lo_toNat (s.pc + 2#16))
  refine ⟨_, exec_jsr w s, ?_, ?_⟩
  · rw [← sub_one_sub_one]
    rfl
  · rw [← hret, ← hhigh, ← hlow]
    exact State.pushWord_onlyStores (s.pc + 2#16) (s.advance 3)

/-- Settles O38: the word pulled as a number, to which 1 is added. -/
theorem rtsPullsWordPlusOne : Obligations.RtsPullsWordPlusOne := by
  refine ⟨rfl, fun s => ?_⟩
  rw [exec_rts, State.poppedWord_eq_ofNat, State.pop_pop, BitVec.ofNat_add]
  rfl

/-- Settles O39: RTS pulls the word that JSR pushed and adds the 1 that JSR left out, and S comes back. -/
theorem rtsAfterJsrReturnsPastTheCall : Obligations.RtsAfterJsrReturnsPastTheCall := by
  intro w s
  have hpulled := State.poppedWord_pushWord (s.pc + 2#16) (s.advance 3)
  have hpopped := State.pop_pop_pushWord (s.pc + 2#16) (s.advance 3)
  have hnext : s.pc + 2#16 + 1#16 = s.pc + 3#16 := BitVec.add_assoc ..
  have hreturn : exec .rts (((s.advance 3).pushWord (s.pc + 2#16)).jump w) =
      .next { s with pc := s.pc + 3#16, mem := ((s.advance 3).pushWord (s.pc + 2#16)).mem } := by
    rw [exec_rts, State.poppedWord_jump, State.pop_jump, State.pop_jump, hpulled, hpopped, hnext]
    rfl
  exact ⟨_, (runAll_cons_of_exec (exec_jsr w s) _).trans (runAll_cons_of_exec hreturn []), rfl⟩

/-- Settles O40: the pulled word as a number, with S counted from before the three pulls. -/
theorem rtiPullsStatusAndPc : Obligations.RtiPullsStatusAndPc := by
  refine ⟨rfl, fun s => ?_⟩
  have hhigh : s.sp + 1#8 + 2#8 = s.sp + 3#8 := BitVec.add_assoc ..
  rw [exec_rti, State.poppedWord_eq_ofNat, State.pop_pop, State.pop_sp, add_one_add_one, hhigh]
  rfl

end Sys2Proof.Machine
end

section
/-! SUPPORT. Stack instructions, flag controls and BRK (R170 to R183): the status byte as a number and back,
what trap entry stores and where it goes, and the statements about the family. -/

namespace Sys2Proof.Machine

open Claims

/-! The flag controls (R175 to R182). -/

/-- Settles O48: each of the seven is one write of a constant to its flag. -/
theorem flagControlsWriteOneFlag : Obligations.FlagControlsWriteOneFlag := by
  refine ⟨?_, ?_, ?_, ?_, ?_, ?_, ?_⟩ <;> exact ⟨rfl, fun _ => rfl⟩

/-! The status byte as a number, and unpacked again (R37, R38). -/

theorem State.packP_eq_ofNat (s : State) : s.packP = BitVec.ofNat 8 (packed s) :=
  eq_ofNat_of_toNat_eq s.toNat_packP

theorem getLsbD_eq_decide (p : Byte) (k : Nat) : p.getLsbD k = decide (p.toNat / 2 ^ k % 2 = 1) :=
  Nat.testBit_eq_decide_div_mod_eq

theorem State.unpackP_eq (p : Byte) (s : State) :
    s.unpackP p =
      { s with
        c := decide (p.toNat % 2 = 1), z := decide (p.toNat / 2 % 2 = 1), i := decide (p.toNat / 4 % 2 = 1)
        d := decide (p.toNat / 8 % 2 = 1), b := decide (p.toNat / 16 % 2 = 1)
        v := decide (p.toNat / 64 % 2 = 1), n := decide (p.toNat / 128 % 2 = 1) } := by
  simp only [State.unpackP, getLsbD_eq_decide, Nat.reducePow, Nat.div_one]

/-- The flags are what their own packed byte unpacks to. -/
theorem State.unpackP_packP (s : State) : s.unpackP s.packP = s := by
  simp [State.unpackP, State.getLsbD_packP, -BitVec.getLsbD_eq_getElem]

/-! Pushes and pulls of one byte (R171 to R174). -/

theorem exec_pha (s : State) : exec .pha s = .next ((s.advance 1).push s.a) := rfl

theorem exec_php (s : State) : exec .php s = .next ((s.advance 1).push s.packP) := rfl

theorem exec_pla (s : State) : exec .pla s = .next ((loadA s.popped s.pop).advance 1) := rfl

theorem exec_plp (s : State) : exec .plp s = .next ((s.pop.unpackP s.popped).advance 1) := rfl

/-- A one-byte instruction that pushes `v` stores it at the location S names and lowers S. -/
theorem exists_onlyStores_of_exec_push {i : Instr} {v : Byte} {s : State}
    (hexec : exec i s = .next ((s.advance 1).push v)) :
    ∃ t, exec i s = .next t ∧ t = { s with pc := s.pc + 1#16, sp := s.sp - 1#8, mem := t.mem } ∧
      OnlyStores s t [(stackAddr s.sp, v)] :=
  ⟨_, hexec, rfl, State.push_onlyStores v (s.advance 1)⟩

/-- Settles O42: both push one byte, A or the status byte, which is its number. -/
theorem pushInstructionsStoreOneStackByte : Obligations.PushInstructionsStoreOneStackByte := by
  refine ⟨rfl, rfl, fun s => ⟨exists_onlyStores_of_exec_push (exec_pha s), ?_⟩⟩
  rw [← State.packP_eq_ofNat]
  exact exists_onlyStores_of_exec_push (exec_php s)

/-- Settles O43: the pulled byte goes to A with N and Z as numbers, or into the flags bit by bit. -/
theorem pullInstructionsReadOneStackByte : Obligations.PullInstructionsReadOneStackByte := by
  refine ⟨⟨rfl, fun s => ?_⟩, ⟨rfl, fun s => ?_⟩⟩
  · rw [exec_pla, loadA_eq_intoA, State.pop, add_one_eq_ofNat]
    rfl
  · rw [exec_plp, State.unpackP_eq, State.pop, add_one_eq_ofNat]
    rfl

/-- Two instructions that complete one after the other run as a pair. -/
theorem runAll_pair_of_exec {i j : Instr} {s t u : State} (hi : exec i s = .next t) (hj : exec j t = .next u) :
    runAll [i, j] s = some u :=
  (runAll_cons_of_exec hi [j]).trans (runAll_cons_of_exec hj [])

/-- The byte pulled is the byte pushed, and S is what it was (R26, R27). -/
theorem exec_pla_push (v : Byte) (s : State) :
    exec .pla (s.push v) = .next ((loadA v (s.write (stackAddr s.sp) v)).advance 1) := by
  rw [exec_pla, State.popped_push, State.pop_push]

/-- PLP finds the flags that PHP packed. -/
theorem exec_plp_push_packP (s : State) :
    exec .plp (s.push s.packP) = .next ((s.write (stackAddr s.sp) s.packP).advance 1) := by
  have hflags : (s.write (stackAddr s.sp) s.packP).unpackP s.packP = s.write (stackAddr s.sp) s.packP :=
    State.unpackP_packP (s.write (stackAddr s.sp) s.packP)
  rw [exec_plp, State.popped_push, State.pop_push, hflags]

/-- Settles O44: the pull finds the byte of the push, which is A or packs the flags. -/
theorem pushThenPullRestores : Obligations.PushThenPullRestores := by
  intro s
  have hpc : s.pc + 1#16 + 1#16 = s.pc + 2#16 := BitVec.add_assoc ..
  refine ⟨⟨_, runAll_pair_of_exec (exec_pha s) (exec_pla_push s.a (s.advance 1)), ?_, ?_⟩,
    ⟨_, runAll_pair_of_exec (exec_php s) (exec_plp_push_packP (s.advance 1)), ?_, ?_⟩⟩
  · rw [← hpc, loadA_eq_intoA]
    rfl
  · exact State.write_onlyStores _ s.a s
  · rw [← hpc]
    rfl
  · rw [← State.packP_eq_ofNat]
    exact State.write_onlyStores _ s.packP s

/-! Trap entry (R183, R204). -/

/-- The status byte trap entry pushes: bit 4 is the earlier B unless `BRK_PUSHES_B_SET` (D8). -/
def trapStatus (cfg : Config) (s : State) : Byte :=
  if cfg.brkPushesBSet then s.packP ||| 0x10#8 else s.packP

/-- A push to a location not stored to before adds its byte to those stored. -/
theorem onlyStores_push_of_fresh {s t : State} {stored : List (Word × Byte)} (h : OnlyStores s t stored)
    (v : Byte) (hfresh : ∀ p ∈ stored, p.1 ≠ stackAddr t.sp) :
    OnlyStores s (t.push v) (stored ++ [(stackAddr t.sp, v)]) := by
  obtain ⟨hstored, hkept⟩ := h
  refine ⟨fun p hp => ?_, fun addr haddr => ?_⟩
  · rw [State.read_push]
    rcases List.mem_append.mp hp with hold | hnew
    · rw [if_neg (hfresh p hold), hstored p hold]
    · rw [List.mem_singleton.mp hnew, if_pos rfl]
  · have hne : addr ≠ stackAddr t.sp := haddr _ (List.mem_append_right _ (List.mem_singleton_self _))
    rw [State.read_push, if_neg hne, hkept addr fun p hp => haddr p (List.mem_append_left _ hp)]

/-- A word and a byte pushed go to three locations, S wrapping; every other byte is as before. -/
theorem State.pushWord_push_onlyStores (w : Word) (v : Byte) (s : State) :
    OnlyStores s ((s.pushWord w).push v)
      [(stackAddr s.sp, hi w), (stackAddr (s.sp - 1#8), lo w), (stackAddr (s.sp - 2#8), v)] := by
  have hsp : (s.pushWord w).sp = s.sp - 2#8 := sub_one_sub_one s.sp
  rw [← hsp]
  refine onlyStores_push_of_fresh (s.pushWord_onlyStores w) v ?_
  simp only [List.forall_mem_cons, hsp, Ne, stackAddr_inj]
  exact ⟨by bv_omega, by bv_omega, List.forall_mem_nil _⟩

theorem takeTrap_onlyStores (cfg : Config) (s : State) :
    OnlyStores s (takeTrap cfg s)
      [(stackAddr s.sp, hi s.pc), (stackAddr (s.sp - 1#8), lo s.pc),
       (stackAddr (s.sp - 2#8), trapStatus cfg s)] :=
  s.pushWord_push_onlyStores s.pc (trapStatus cfg s)

theorem takeTrap_read_status (cfg : Config) (s : State) :
    (takeTrap cfg s).read (stackAddr (s.sp - 2#8)) = trapStatus cfg s := by
  obtain ⟨hstored, -⟩ := takeTrap_onlyStores cfg s
  exact hstored (stackAddr (s.sp - 2#8), trapStatus cfg s) (by simp)

/-- Bit 4 of the pushed byte is the earlier B, or 1 under the parameter (D8). -/
theorem trapStatus_getLsbD_four (cfg : Config) (s : State) :
    (trapStatus cfg s).getLsbD 4 = (s.b || cfg.brkPushesBSet) := by
  have hb : s.packP.getLsbD 4 = s.b := s.getLsbD_packP (by decide)
  cases h : cfg.brkPushesBSet with
  | false => rw [trapStatus, h, if_neg Bool.false_ne_true, hb, Bool.or_false]
  | true =>
    rw [trapStatus, h, if_pos rfl, BitVec.getLsbD_or, hb]
    rfl

theorem takeTrap_sp (cfg : Config) (s : State) : (takeTrap cfg s).sp = s.sp - 3#8 := by
  change s.sp - 1#8 - 1#8 - 1#8 = s.sp - 3#8
  rw [sub_one_sub_one, BitVec.sub_sub]
  rfl

/-- The vector of BRK lies outside page 1. -/
theorem SameOutsidePageOne.wordAt_vector {s t : State} (h : SameOutsidePageOne s t) :
    wordAt t 0xFFFE 0xFFFF = wordAt s 0xFFFE 0xFFFF := by
  rw [wordAt, wordAt, h 0xFFFE (by simp [InPageOne]), h 0xFFFF (by simp [InPageOne])]

/-- The pushes do not reach the vector, so that PC is the word it held before them. -/
theorem takeTrap_pc (cfg : Config) (s : State) :
    (takeTrap cfg s).pc = BitVec.ofNat 16 (wordAt s 0xFFFE 0xFFFF) := by
  rw [← (takeTrap_sameOutsidePageOne cfg s).wordAt_vector]
  exact word_eq_ofNat ..

/-- Trap entry writes S, B, PC and memory, and nothing else. -/
theorem takeTrap_eq (cfg : Config) (s : State) :
    takeTrap cfg s =
      { s with
        b := true, sp := s.sp - 3#8, pc := BitVec.ofNat 16 (wordAt s 0xFFFE 0xFFFF)
        mem := (takeTrap cfg s).mem } := by
  rw [← takeTrap_pc cfg s, ← takeTrap_sp cfg s]
  rfl

theorem exec_brk (s : State) : exec .brk s = .next (takeTrap config (s.advance 1)) := rfl

/-- Settles O49: trap entry from PC past the opcode, with the bytes pushed as numbers. -/
theorem brkEntersTheTrap : Obligations.BrkEntersTheTrap := by
  refine ⟨⟨rfl, fun s => ⟨_, exec_brk s, ?_, ?_⟩⟩, fun cfg s hset => ?_⟩
  · exact takeTrap_eq config (s.advance 1)
  · have hret : (s.pc + 1#16).toNat = (s.pc.toNat + 1) % 65536 := BitVec.toNat_add s.pc 1#16
    have hhigh := eq_ofNat_of_toNat_eq (hi_toNat (s.pc + 1#16))
    have hlow := eq_ofNat_of_toNat_eq (lo_toNat (s.pc + 1#16))
    rw [← hret, ← hhigh, ← hlow, ← State.packP_eq_ofNat]
    exact takeTrap_onlyStores config (s.advance 1)
  · have hstatus : trapStatus cfg s = s.packP ||| 0x10#8 := if_pos hset
    rw [← State.packP_eq_ofNat, ← hstatus]
    exact takeTrap_onlyStores cfg s

/-- Settles O51: the first BRK sets B, which the second one stacks. -/
theorem nestedBrkStacksBreakFlag : Obligations.NestedBrkStacksBreakFlag := by
  intro s
  refine ⟨_, runAll_pair_of_exec (exec_brk s) (exec_brk _), ?_, ?_, ?_⟩
  · rw [takeTrap_sp, State.advance_sp, takeTrap_sp, State.advance_sp, BitVec.sub_sub]
    rfl
  · rw [takeTrap_pc]
    exact congrArg (BitVec.ofNat 16) (takeTrap_sameOutsidePageOne config (s.advance 1)).wordAt_vector
  · have hsp : ((takeTrap config (s.advance 1)).advance 1).sp - 2#8 = s.sp - 5#8 := by
      rw [State.advance_sp, takeTrap_sp, State.advance_sp, BitVec.sub_sub]
      rfl
    rw [← hsp, takeTrap_read_status, trapStatus_getLsbD_four]
    rfl

end Sys2Proof.Machine
end

section
/-! SUPPORT. Transfers, BIT and NOP (R190 to R198): each as its effect once PC is past it, and the
statements about the family. -/

namespace Sys2Proof.Machine

open Claims

/-- Settles O52: each of the six loads, or for TXS only writes, its destination with a register other than
PC. -/
theorem transfersCopyRegisters : Obligations.TransfersCopyRegisters := by
  refine ⟨?_, ?_, ?_, ?_, ?_, ?_⟩
  · exact oneByte_of_implied (f := fun s => loadX s.a s) rfl (fun _ => rfl) fun s _ => loadX_eq_intoX s.a _
  · exact oneByte_of_implied (f := fun s => loadY s.a s) rfl (fun _ => rfl) fun s _ => loadY_eq_intoY s.a _
  · exact oneByte_of_implied (f := fun s => loadX s.sp s) rfl (fun _ => rfl) fun s _ => loadX_eq_intoX s.sp _
  · exact oneByte_of_implied (f := fun s => loadA s.x s) rfl (fun _ => rfl) fun s _ => loadA_eq_intoA s.x _
  · exact oneByte_of_implied (f := fun s => { s with sp := s.x }) rfl (fun _ => rfl) fun _ _ => rfl
  · exact oneByte_of_implied (f := fun s => loadA s.y s) rfl (fun _ => rfl) fun s _ => loadA_eq_intoA s.y _

/-- Both rows of BIT run the bit test on their operand (R74, R105). -/
theorem bitForms_runOn : ∀ form ∈ bitForms, form.Reads (RunsOn bitTest) := by
  intro form h
  fin_cases h <;> exact fun _ => ⟨rfl, fun _ => rfl, fun _ _ => rfl⟩

theorem bit6_eq_decide (v : Byte) : bit6 v = decide (v.toNat / 64 % 2 = 1) := getLsbD_eq_decide v 6

theorem isZero_eq_decide (r : Byte) : isZero r = decide (r = 0#8) := rfl

/-- The bit test as numbers (R197). -/
theorem bitTest_eq (v : Byte) (s : State) :
    bitTest v s =
      { s with z := decide (s.a &&& v = 0#8), n := neg v.toNat, v := decide (v.toNat / 64 % 2 = 1) } := by
  rw [bitTest, isZero_eq_decide, bit7_eq_neg, bit6_eq_decide]

/-- Settles O53: the two rows run the bit test, which reads A and the operand and not PC. -/
theorem bitTestsOperandBits : Obligations.BitTestsOperandBits :=
  readsTo_of_runOn bitForms_runOn fun v _ _ => bitTest_eq v _

/-- Settles O54: the effect of NOP is the identity. -/
theorem nopOnlyAdvancesPc : Obligations.NopOnlyAdvancesPc :=
  oneByte_of_implied (f := fun s => s) rfl (fun _ => rfl) fun _ _ => rfl

end Sys2Proof.Machine
end

section
/-! SUPPORT. The unknown opcode (R77, R201, R203, R216, R229): the bytes of R77 are those no row has, so a
step that fetches one of them makes the report, and a driver then ends or goes on by its policy. -/

namespace Sys2Proof.Machine

theorem isUnknownOpcode_iff_lookupOpcode_eq_none {op : Byte} :
    isUnknownOpcode op = true ↔ lookupOpcode op = none := by
  rw [lookupOpcode_eq_none_iff, isUnknownOpcode, List.contains_iff_mem]

theorem safe_iff_not_isUnknownOpcode {s : State} : Safe s = true ↔ isUnknownOpcode (s.read s.pc) = false := by
  rw [Safe, Option.isSome_iff_ne_none, Ne, ← isUnknownOpcode_iff_lookupOpcode_eq_none, Bool.not_eq_true]

/-- A fetch that finds one of the bytes of R77 at PC answers no instruction. -/
theorem fetchInstr_of_isUnknownOpcode {s : State} (h : isUnknownOpcode (s.read s.pc) = true) :
    fetchInstr s = .error (.unknownOpcode (s.read s.pc)) := by
  have hdecode : decode (fetchBytes s) = .error (.unknownOpcode (s.read s.pc)) :=
    decode_eq_unknownOpcode_iff.mpr (isUnknownOpcode_iff_lookupOpcode_eq_none.mp h)
  rw [fetchInstr, hdecode]

/-- The report of R201: the byte, its address, and the state with PC one past it. -/
theorem step_of_isUnknownOpcode {s : State} (h : isUnknownOpcode (s.read s.pc) = true) :
    step s = .fault (.unknownOpcode (s.read s.pc) s.pc { s with pc := s.pc + 1#16 }) := by
  rw [step, fetchInstr_of_isUnknownOpcode h]
  rfl

theorem instrReads_one (s : State) : instrReads 1 s = [.read s.pc (s.read s.pc)] := by
  simp [instrReads, readsAt]

theorem stepAccesses_of_isUnknownOpcode {s : State} (h : isUnknownOpcode (s.read s.pc) = true) :
    stepAccesses s = [.read s.pc (s.read s.pc)] := by
  rw [stepAccesses, fetchInstr_of_isUnknownOpcode h]
  exact instrReads_one s

/-- Settles O9: a state is safe when the byte at PC is not in the list of R77, and safe states complete. -/
theorem stepCompletesOrReportsUnknownOpcode : Obligations.StepCompletesOrReportsUnknownOpcode := by
  intro s
  refine ⟨fun hknown => ?_, fun hunknown =>
    ⟨step_of_isUnknownOpcode hunknown, stepAccesses_of_isUnknownOpcode hunknown⟩⟩
  obtain ⟨hsafe, -⟩ := safeStatesAreThoseThatComplete s
  exact hsafe.mp (safe_iff_not_isUnknownOpcode.mpr hknown)

/-! The driver at an unknown opcode (R216, R229). -/

/-- At its stop address a run ends before the step, whatever byte stands there. -/
theorem drive_atAddress_pc (policy : UnknownOpcodePolicy) (k : Nat) (s : State) :
    drive policy (.atAddress s.pc) (k + 1) s = ⟨[], .stopped s⟩ := if_pos rfl

theorem drive_fault_of_step {s t : State} {stop : StopCondition} {op : Byte} {addr : Word}
    (hstop : stop ≠ .atAddress s.pc) (hstep : step s = .fault (.unknownOpcode op addr t)) (k : Nat) :
    drive .fault stop (k + 1) s = ⟨[(op, addr)], .failed (.fault (.unknownOpcode op addr t))⟩ := by
  rw [drive, if_neg hstop, hstep]

theorem drive_skip_of_step {s t : State} {stop : StopCondition} {op : Byte} {addr : Word}
    (hstop : stop ≠ .atAddress s.pc) (hstep : step s = .fault (.unknownOpcode op addr t)) (k : Nat) :
    drive .skip stop (k + 1) s =
      ⟨(op, addr) :: (drive .skip stop k t).reports, (drive .skip stop k t).ending⟩ := by
  rw [drive, if_neg hstop, hstep]

/-- Settles O60: unless the run has come to its stop address, the driver makes the step, which reports. -/
theorem unknownOpcodePolicyOfTheDriver : Obligations.UnknownOpcodePolicyOfTheDriver := by
  intro s k hunknown
  have hstep := step_of_isUnknownOpcode hunknown
  exact ⟨fun stop hstop => ⟨drive_fault_of_step hstop hstep k, drive_skip_of_step hstop hstep k⟩,
    fun policy => drive_atAddress_pc policy k s⟩

end Sys2Proof.Machine
end

section
/-! SUPPORT. Trap return after trap entry (R204, R205): the three bytes pulled are those pushed. -/

namespace Sys2Proof.Machine

open Claims

/-- A byte stored at the location S names is neither of the two pulled next. -/
theorem State.poppedWord_write_stackAddr (v : Byte) (s : State) :
    (s.write (stackAddr s.sp) v).poppedWord = s.poppedWord := by
  have hne : stackAddr (s.sp + 1#8 + 1#8) ≠ stackAddr s.sp := by
    rw [Ne, stackAddr_inj]
    bv_omega
  have hhigh : (s.write (stackAddr s.sp) v).pop.popped = s.pop.popped :=
    (State.read_write ..).trans (if_neg hne)
  rw [State.poppedWord, State.popped_write_stackAddr, hhigh, State.poppedWord]

/-- The byte on top of the stack after trap entry is the status byte. -/
theorem takeTrap_popped (cfg : Config) (s : State) : (takeTrap cfg s).popped = trapStatus cfg s :=
  State.popped_push (trapStatus cfg s) (s.pushWord s.pc)

/-- Below the status byte lies the PC that trap entry pushed. -/
theorem takeTrap_pop_poppedWord (cfg : Config) (s : State) : (takeTrap cfg s).pop.poppedWord = s.pc := by
  change ((s.pushWord s.pc).push (trapStatus cfg s)).pop.poppedWord = s.pc
  rw [State.pop_push, State.poppedWord_write_stackAddr, State.poppedWord_pushWord]

/-- Three pulls restore the S of before the three pushes. -/
theorem takeTrap_pop_pop_pop_sp (cfg : Config) (s : State) : (takeTrap cfg s).pop.pop.pop.sp = s.sp := by
  simp only [State.pop_sp, takeTrap_sp]
  bv_omega

/-- RTI undoes trap entry but for the bytes left in memory, as the status byte has B as it was. -/
theorem exec_rti_takeTrap {cfg : Config} (hcfg : cfg.brkPushesBSet = false) (s : State) :
    exec .rti (takeTrap cfg s) = .next { s with mem := (takeTrap cfg s).mem } := by
  have hstatus : trapStatus cfg s = s.packP := by rw [trapStatus, hcfg, if_neg Bool.false_ne_true]
  have hpulled : ((takeTrap cfg s).pop.pop.pop.unpackP s.packP).jump s.pc =
      { s.unpackP s.packP with sp := (takeTrap cfg s).pop.pop.pop.sp, mem := (takeTrap cfg s).mem } := rfl
  rw [exec_rti, takeTrap_popped, takeTrap_pop_poppedWord, hstatus, hpulled, takeTrap_pop_pop_pop_sp,
    State.unpackP_packP]

/-- Settles O50: trap entry from PC past the BRK, undone by RTI. -/
theorem rtiAfterBrkReturnsPastIt : Obligations.RtiAfterBrkReturnsPastIt := fun s =>
  ⟨_, runAll_pair_of_exec (exec_brk s) (exec_rti_takeTrap rfl (s.advance 1)), rfl⟩

end Sys2Proof.Machine
end

section
/-! SUPPORT. The reset sequence (R220). -/

namespace Sys2Proof.Machine

open Claims

/-- The word at a vector as a number (R57). -/
theorem State.vector_eq_ofNat (s : State) (addr : Word) :
    s.vector addr = BitVec.ofNat 16 (wordAt s addr (addr + 1#16)) := word_eq_ofNat ..

/-- Settles O17: the vector's word as a number; the other writes and the two reads are as defined. -/
theorem resetSequenceWritesFiveThings : Obligations.ResetSequenceWritesFiveThings := by
  refine fun s => ⟨?_, rfl⟩
  rw [resetSequence, State.vector_eq_ofNat]
  rfl

end Sys2Proof.Machine
end
